-- ==== Sys2Proof/Word.lean ====
section
/-!
DEFINITION. The bit-vector widths frame_reader works with (spec/00_scope.md R12: bit 0 is the least
significant bit, every value is unsigned) and the one test the opcode table is written in.
-/

namespace Sys2Proof

/-- One byte: a wire byte, or an unescaped byte of the receive buffer. -/
abbrev Byte := BitVec 8

/-- The input word IW, sampled once a step (R53). -/
abbrev InputWord := BitVec 11

/-- The wire-symbol word WS = (esc, b) (R56). -/
abbrev WireWord := BitVec 9

/-- The selector FS = (st, m) (R57). -/
abbrev FsWord := BitVec 3

/-- The state of the CRC-16 (R101). -/
abbrev CrcWord := BitVec 16

/-- A word of any of the opcode table's five formats, in its widest form. -/
abbrev InstrWord := BitVec 16

/-- A word fits a row of the opcode table when its bits under `mask` are those of `pat`. -/
def hits {k : Nat} (w mask pat : BitVec k) : Bool :=
  w &&& mask == pat

end Sys2Proof
end

