-- ==== Sys2Proof/Config.lean ====
section
/-!
DEFINITION. What an implementation of frame_reader fixes: the four parameters of spec/00_scope.md
R7-R10 and the constants of R11. The spec leaves no value undefined that a running block could
read, so there is no free value here.
-/

namespace Sys2Proof

/-- `P_MID_MARKER` (R9): what an unescaped 0xFD does outside Synchronizing. -/
inductive MidMarker where
  /-- The partial frame is dropped and a new frame starts (R88). -/
  | restart
  /-- The byte is stored as frame data (R89). -/
  | data
  deriving DecidableEq, Repr

/-- The four parameters of an instance (R7-R10), fixed for its life (R18, R38). -/
structure Params where
  /-- `P_RX_BUF_BYTES` (R7): capacity of the receive buffer. -/
  rxBufBytes : Nat
  /-- `P_CNT_W` (R8): width in bits of each diagnostic counter. -/
  cntW : Nat
  /-- `P_MID_MARKER` (R9). -/
  midMarker : MidMarker
  /-- `P_CRC_COVERS_MARKER` (R10): does the CRC start at buffer index 0? -/
  crcCoversMarker : Bool
  deriving DecidableEq, Repr

/-- The defaults of R7-R10. -/
def Params.default : Params :=
  { rxBufBytes := 21, cntW := 32, midMarker := .restart, crcCoversMarker := true }

/-- The values R7 and R8 admit. -/
abbrev Params.Wf (p : Params) : Prop :=
  3 ≤ p.rxBufBytes ∧ 1 ≤ p.cntW

/-- `NW` (R11): the bits needed to hold the counts 0 to `P_RX_BUF_BYTES`. -/
def Params.nw (p : Params) : Nat :=
  p.rxBufBytes.log2 + 1

namespace Config

/-- MARKER (R11), the frame-start marker. -/
def MARKER : Byte := 0xFD#8

/-- ESCAPE (R11), the escape marker. -/
def ESCAPE : Byte := 0xFC#8

/-- ESC_BIT (R11), the bit an escape restores. -/
def ESC_BIT : Byte := 0x80#8

/-- HDR_BYTES (R11): the marker and two header bytes. -/
def HDR_BYTES : Nat := 3

/-- MAX_LEN (R11): the largest payload length. -/
def MAX_LEN : Nat := 15

/-- CRC_INIT (R11). -/
def CRC_INIT : CrcWord := 0x0000#16

/-- CRC_POLY_REFLECTED (R11, R101). -/
def CRC_POLY_REFLECTED : CrcWord := 0x8408#16

end Config

end Sys2Proof
end

