-- ==== Sys2Proof/Syntax.lean ====
section
/-!
DEFINITION. The names of the block's four reader states, the five formats of spec/opcode_table.json
and the ONE inductive of its 31 rows. Bits a row ignores (R55: the D field when V = 0) are not part
of the instruction.
-/

namespace Sys2Proof

/-- The FSM state `st` (R19). Its 2-bit code is `Sys2Proof.fsmCode`. -/
inductive Fsm where
  /-- Synchronizing. -/
  | sync
  /-- ReadingHeader. -/
  | hdr
  /-- ReadingPacket. -/
  | pkt
  /-- ReadingCRC. -/
  | crc
  deriving DecidableEq, Repr

/-- The `format` column of the opcode table (spec/30_encoding.md). -/
inductive Format where
  /-- The sampled input word IW (R53, R54). -/
  | inputWord
  /-- The wire-symbol word WS (R56). -/
  | wireSymbol
  /-- The state and symbol selector FS, with the DATA symbol's byte beside it (R57). -/
  | fsmSelect
  /-- The header byte hdr0 (R59, R64). -/
  | frameHdr0
  /-- The CRC remainder r (R104). -/
  | crcCheck
  deriving DecidableEq, Repr

/-- One constructor per row of spec/opcode_table.json, in the table's order. A wire byte is `b`,
the byte of a DATA symbol is `d`. -/
inductive Instr where
  | reset
  | byte (b : Byte)
  | timeoutMidframe
  | timeoutSync
  | idle
  | dataEscaped (b : Byte)
  | escPrefix
  | marker
  | dataPlain (b : Byte)
  | syncMarker
  | syncData (d : Byte)
  | hdrMarkerRestart
  | hdrMarkerData
  | pktMarkerRestart
  | pktMarkerData
  | crcMarkerRestart
  | crcMarkerData
  | hdrDataOverflow (d : Byte)
  | pktDataOverflow (d : Byte)
  | crcDataOverflow (d : Byte)
  | hdrDataHdr0 (d : Byte)
  | hdrDataToken (d : Byte)
  | hdrDataCommand (d : Byte)
  | pktDataMore (d : Byte)
  | pktDataLast (d : Byte)
  | crcDataLow (d : Byte)
  | crcDataHigh (d : Byte)
  | token
  | command
  | crcPass
  | crcError
  deriving DecidableEq, Repr

/-- The operands of `SerializeToken` (R120); the field widths are the ranges of R123. -/
structure TokenFields where
  dest : BitVec 6
  bcast : BitVec 1
  src : BitVec 6
  seq : BitVec 2
  deriving DecidableEq, Repr

/-- The operands of `SerializeCommand` (R121); the widths are the ranges of R123, the payload
length is checked by `CommandFields.wellFormed`. -/
structure CommandFields where
  dest : BitVec 6
  bcast : BitVec 1
  src : BitVec 6
  seq : BitVec 2
  cmd : BitVec 4
  payload : List Byte
  deriving DecidableEq, Repr

end Sys2Proof
end

