-- ==== Sys2Proof/WellFormed.lean ====
section
/-!
DEFINITION. Which terms stand for something the spec has: the operand ranges of spec/40_input_ops.md
R81 and spec/43_reference_encoder.md R123. Every other operand is in range by its type.
-/

namespace Sys2Proof

/-- DATA_PLAIN carries a byte other than 0xFC and 0xFD (R81); every other row takes any byte. -/
def Instr.wellFormed : Instr → Bool
  | .dataPlain b => b != Config.ESCAPE && b != Config.MARKER
  | .reset | .byte _ | .timeoutMidframe | .timeoutSync | .idle => true
  | .dataEscaped _ | .escPrefix | .marker => true
  | .syncMarker | .syncData _ => true
  | .hdrMarkerRestart | .hdrMarkerData | .pktMarkerRestart => true
  | .pktMarkerData | .crcMarkerRestart | .crcMarkerData => true
  | .hdrDataOverflow _ | .pktDataOverflow _ | .crcDataOverflow _ => true
  | .hdrDataHdr0 _ | .hdrDataToken _ | .hdrDataCommand _ => true
  | .pktDataMore _ | .pktDataLast _ | .crcDataLow _ | .crcDataHigh _ => true
  | .token | .command | .crcPass | .crcError => true

/-- The encoder's domain (R123): at most MAX_LEN payload bytes. -/
def CommandFields.wellFormed (f : CommandFields) : Bool :=
  decide (f.payload.length ≤ Config.MAX_LEN)

end Sys2Proof
end

