-- ==== Sys2Proof/Decode.lean ====
section
/-!
DEFINITION. The opcode table: decoding a word of each of its five formats, and encoding. Rows that
share a pattern are told apart by the table's `condition` column, whose facts stand in `Cond`;
within a format the first matching row wins (spec/30_encoding.md).
-/

namespace Sys2Proof

/-- Why a word is no row of its format. -/
inductive DecodeError where
  /-- A bit above the format's fields is set (there is no such wire or register bit). -/
  | strayBits
  /-- The pattern is in the table but no row's condition holds: R23 is broken (R130). -/
  | noRow
  deriving DecidableEq, Repr

/-- What the `condition` column reads: the state register, the count before the store, the
parameters R7 and R9, and the two buffer bytes that steer the accumulator. -/
structure Cond where
  st : Fsm
  n : Nat
  rxBufBytes : Nat
  midMarker : MidMarker
  /-- `buf[1]` -/
  hdr0 : Byte
  /-- `buf[3]`, before the store -/
  cmdlen : Byte
  deriving DecidableEq, Repr

/-- The code of a state (R19). -/
def fsmCode : Fsm → BitVec 2
  | .sync => 0b00#2
  | .hdr => 0b01#2
  | .pkt => 0b10#2
  | .crc => 0b11#2

/-- The state of a code: all four codes name one (R19). -/
def fsmOfCode (c : BitVec 2) : Fsm :=
  if c = 0b00#2 then .sync
  else if c = 0b01#2 then .hdr
  else if c = 0b10#2 then .pkt
  else .crc

/-- R53: the input word from the four input ports. -/
def packInput (rst timeout valid : Bool) (data : Byte) : InputWord :=
  BitVec.ofBool rst ++ BitVec.ofBool timeout ++ BitVec.ofBool valid ++ data

/-- R56: the symbol word from the escape flag and the wire byte. -/
def packWire (esc : Bool) (b : Byte) : WireWord :=
  BitVec.ofBool esc ++ b

/-- R57: the selector from the state and the kind of symbol. -/
def packFs (st : Fsm) (m : Bool) : FsWord :=
  fsmCode st ++ BitVec.ofBool m

/-- R54: the operation an input word selects. No input word is illegal (R67). -/
def decodeInput (st : Fsm) (w : InputWord) : Instr :=
  if hits w 0x400#11 0x400#11 then .reset
  else if hits w 0x500#11 0x100#11 then .byte (w.extractLsb' 0 8)
  else if hits w 0x700#11 0x200#11 then
    if st = .sync then .timeoutSync else .timeoutMidframe
  else .idle

/-- R56: the class of a wire symbol. -/
def decodeWire (w : WireWord) : Instr :=
  if hits w 0x100#9 0x100#9 then .dataEscaped (w.extractLsb' 0 8)
  else if hits w 0x1FF#9 0x0FC#9 then .escPrefix
  else if hits w 0x1FF#9 0x0FD#9 then .marker
  else .dataPlain (w.extractLsb' 0 8)

/-- `L` after the store of `d` (R16, R95): the cmdlen byte is `d` itself when it is stored at
index 3. -/
def lenAfterStore (c : Cond) (d : Byte) : Nat :=
  ((if c.n = 3 then d else c.cmdlen).extractLsb' 0 4).toNat

/-- R57, R90-R98: the row of a DATA symbol in HDR, by the count. -/
def decodeHdrData (c : Cond) (d : Byte) : Except DecodeError Instr :=
  if c.n = c.rxBufBytes then .ok (.hdrDataOverflow d)
  else if c.rxBufBytes < c.n then .error .noRow
  else if c.n + 1 = 2 then .ok (.hdrDataHdr0 d)
  else if c.n + 1 = 3 then
    if c.hdr0.getLsbD 0 then .ok (.hdrDataCommand d) else .ok (.hdrDataToken d)
  else .error .noRow

/-- R57, R90-R98: the row of a DATA symbol in PKT, by the count. -/
def decodePktData (c : Cond) (d : Byte) : Except DecodeError Instr :=
  if c.n = c.rxBufBytes then .ok (.pktDataOverflow d)
  else if c.rxBufBytes < c.n then .error .noRow
  else if c.n + 1 < 4 + lenAfterStore c d then .ok (.pktDataMore d)
  else if c.n + 1 = 4 + lenAfterStore c d then .ok (.pktDataLast d)
  else .error .noRow

/-- R57, R90-R98: the row of a DATA symbol in CRC, by the count. -/
def decodeCrcData (c : Cond) (d : Byte) : Except DecodeError Instr :=
  if c.n = c.rxBufBytes then .ok (.crcDataOverflow d)
  else if c.rxBufBytes < c.n then .error .noRow
  else if c.n + 1 = 5 + lenAfterStore c d then .ok (.crcDataLow d)
  else if c.n + 1 = 6 + lenAfterStore c d then .ok (.crcDataHigh d)
  else .error .noRow

/-- R57: the row of a MARKER symbol in HDR, PKT or CRC, by `P_MID_MARKER` (R88, R89). -/
def byPolicy (c : Cond) (onRestart onData : Instr) : Instr :=
  match c.midMarker with
  | .restart => onRestart
  | .data => onData

/-- R57: the row of a symbol, `d` being the byte of a DATA symbol. -/
def decodeFsm (c : Cond) (f : FsWord) (d : Byte) : Except DecodeError Instr :=
  if hits f 0b111#3 0b001#3 then .ok .syncMarker
  else if hits f 0b111#3 0b000#3 then .ok (.syncData d)
  else if hits f 0b111#3 0b011#3 then .ok (byPolicy c .hdrMarkerRestart .hdrMarkerData)
  else if hits f 0b111#3 0b101#3 then .ok (byPolicy c .pktMarkerRestart .pktMarkerData)
  else if hits f 0b111#3 0b111#3 then .ok (byPolicy c .crcMarkerRestart .crcMarkerData)
  else if hits f 0b111#3 0b010#3 then decodeHdrData c d
  else if hits f 0b111#3 0b100#3 then decodePktData c d
  else decodeCrcData c d

/-- R64: the frame kind, from bit 0 of hdr0. -/
def decodeHdr0 (h : Byte) : Instr :=
  if hits h 0x01#8 0x00#8 then .token else .command

/-- R104: the outcome of the CRC check, from the remainder. -/
def decodeCrc (r : CrcWord) : Instr :=
  if hits r 0xFFFF#16 0x0000#16 then .crcPass else .crcError

/-- The format of a row. -/
def Instr.format : Instr → Format
  | .reset | .byte _ | .timeoutMidframe | .timeoutSync | .idle => .inputWord
  | .dataEscaped _ | .escPrefix | .marker | .dataPlain _ => .wireSymbol
  | .syncMarker | .syncData _ => .fsmSelect
  | .hdrMarkerRestart | .hdrMarkerData | .pktMarkerRestart => .fsmSelect
  | .pktMarkerData | .crcMarkerRestart | .crcMarkerData => .fsmSelect
  | .hdrDataOverflow _ | .pktDataOverflow _ | .crcDataOverflow _ => .fsmSelect
  | .hdrDataHdr0 _ | .hdrDataToken _ | .hdrDataCommand _ => .fsmSelect
  | .pktDataMore _ | .pktDataLast _ | .crcDataLow _ | .crcDataHigh _ => .fsmSelect
  | .token | .command => .frameHdr0
  | .crcPass | .crcError => .crcCheck

/-- The bits of a format's word. An `fsm_select` word is FS in bits 2..0 and, as its operand, the
byte of a DATA symbol in bits 15..8; bits 7..3 are none (DESIGN CHOICE, log entry 8). -/
def Format.bits : Format → InstrWord
  | .inputWord => 0x07FF#16
  | .wireSymbol => 0x01FF#16
  | .fsmSelect => 0xFF07#16
  | .frameHdr0 => 0x00FF#16
  | .crcCheck => 0xFFFF#16

/-- An `fsm_select` word. A MARKER symbol has no byte, so its operand bits are stray. -/
def decodeFsmWord (c : Cond) (w : InstrWord) : Except DecodeError Instr :=
  if w.getLsbD 0 && w.extractLsb' 8 8 != 0#8 then .error .strayBits
  else decodeFsm c (w.extractLsb' 0 3) (w.extractLsb' 8 8)

/-- The instruction a word of format `f` stands for under the conditions `c`. Total: a word with
bits the format does not have, or one no row's condition fits, is rejected by name. -/
def decode (f : Format) (c : Cond) (w : InstrWord) : Except DecodeError Instr :=
  if w &&& ~~~f.bits = 0#16 then
    match f with
    | .inputWord => .ok (decodeInput c.st (w.extractLsb' 0 11))
    | .wireSymbol => .ok (decodeWire (w.extractLsb' 0 9))
    | .fsmSelect => decodeFsmWord c w
    | .frameHdr0 => .ok (decodeHdr0 (w.extractLsb' 0 8))
    | .crcCheck => .ok (decodeCrc w)
  else .error .strayBits

/-- The `fsm_select` word of a state, a symbol kind and a DATA symbol's byte. -/
def encodeFsm (st : Fsm) (m : Bool) (d : Byte) : InstrWord :=
  d ++ 0#5 ++ packFs st m

/-- The word of an instruction, ignored bits zero. CRC_ERROR stands for every nonzero remainder;
its word here is 0x0001 (DESIGN CHOICE, log entry 8). -/
def encode : Instr → InstrWord
  | .reset => 0#5 ++ packInput true false false 0#8
  | .byte b => 0#5 ++ packInput false false true b
  | .timeoutMidframe => 0#5 ++ packInput false true false 0#8
  | .timeoutSync => 0#5 ++ packInput false true false 0#8
  | .idle => 0#5 ++ packInput false false false 0#8
  | .dataEscaped b => 0#7 ++ packWire true b
  | .escPrefix => 0#7 ++ packWire false Config.ESCAPE
  | .marker => 0#7 ++ packWire false Config.MARKER
  | .dataPlain b => 0#7 ++ packWire false b
  | .syncMarker => encodeFsm .sync true 0#8
  | .syncData d => encodeFsm .sync false d
  | .hdrMarkerRestart => encodeFsm .hdr true 0#8
  | .hdrMarkerData => encodeFsm .hdr true 0#8
  | .pktMarkerRestart => encodeFsm .pkt true 0#8
  | .pktMarkerData => encodeFsm .pkt true 0#8
  | .crcMarkerRestart => encodeFsm .crc true 0#8
  | .crcMarkerData => encodeFsm .crc true 0#8
  | .hdrDataOverflow d => encodeFsm .hdr false d
  | .pktDataOverflow d => encodeFsm .pkt false d
  | .crcDataOverflow d => encodeFsm .crc false d
  | .hdrDataHdr0 d => encodeFsm .hdr false d
  | .hdrDataToken d => encodeFsm .hdr false d
  | .hdrDataCommand d => encodeFsm .hdr false d
  | .pktDataMore d => encodeFsm .pkt false d
  | .pktDataLast d => encodeFsm .pkt false d
  | .crcDataLow d => encodeFsm .crc false d
  | .crcDataHigh d => encodeFsm .crc false d
  | .token => 0x0000#16
  | .command => 0x0001#16
  | .crcPass => 0x0000#16
  | .crcError => 0x0001#16

/-- The `condition` column of the opcode table, beyond the word's own pattern. "Store succeeds" is
`n < P_RX_BUF_BYTES` (R90). -/
def rowCondition (c : Cond) : Instr → Bool
  | .timeoutMidframe => c.st != .sync
  | .timeoutSync => c.st == .sync
  | .hdrMarkerRestart | .pktMarkerRestart | .crcMarkerRestart => c.midMarker == .restart
  | .hdrMarkerData | .pktMarkerData | .crcMarkerData => c.midMarker == .data
  | .hdrDataOverflow _ | .pktDataOverflow _ | .crcDataOverflow _ => c.n == c.rxBufBytes
  | .hdrDataHdr0 _ => decide (c.n < c.rxBufBytes) && c.n + 1 == 2
  | .hdrDataToken _ => decide (c.n < c.rxBufBytes) && c.n + 1 == 3 && !c.hdr0.getLsbD 0
  | .hdrDataCommand _ => decide (c.n < c.rxBufBytes) && c.n + 1 == 3 && c.hdr0.getLsbD 0
  | .pktDataMore d => decide (c.n < c.rxBufBytes) && decide (c.n + 1 < 4 + lenAfterStore c d)
  | .pktDataLast d => decide (c.n < c.rxBufBytes) && c.n + 1 == 4 + lenAfterStore c d
  | .crcDataLow d => decide (c.n < c.rxBufBytes) && c.n + 1 == 5 + lenAfterStore c d
  | .crcDataHigh d => decide (c.n < c.rxBufBytes) && c.n + 1 == 6 + lenAfterStore c d
  | .reset | .byte _ | .idle => true
  | .dataEscaped _ | .escPrefix | .marker | .dataPlain _ => true
  | .syncMarker | .syncData _ => true
  | .token | .command | .crcPass | .crcError => true

/-- The `mask` column of the opcode table. -/
def rowMask : Instr → InstrWord
  | .reset => 0x400#16
  | .byte _ => 0x500#16
  | .timeoutMidframe | .timeoutSync | .idle => 0x700#16
  | .dataEscaped _ | .dataPlain _ => 0x100#16
  | .escPrefix | .marker => 0x1FF#16
  | .syncMarker | .syncData _ => 0x7#16
  | .hdrMarkerRestart | .hdrMarkerData | .pktMarkerRestart => 0x7#16
  | .pktMarkerData | .crcMarkerRestart | .crcMarkerData => 0x7#16
  | .hdrDataOverflow _ | .pktDataOverflow _ | .crcDataOverflow _ => 0x7#16
  | .hdrDataHdr0 _ | .hdrDataToken _ | .hdrDataCommand _ => 0x7#16
  | .pktDataMore _ | .pktDataLast _ | .crcDataLow _ | .crcDataHigh _ => 0x7#16
  | .token | .command => 0x01#16
  | .crcPass => 0xFFFF#16
  | .crcError => 0x0000#16

/-- The `match` column of the opcode table. -/
def rowMatch : Instr → InstrWord
  | .reset => 0x400#16
  | .byte _ => 0x100#16
  | .timeoutMidframe | .timeoutSync => 0x200#16
  | .idle => 0x000#16
  | .dataEscaped _ => 0x100#16
  | .escPrefix => 0x0FC#16
  | .marker => 0x0FD#16
  | .dataPlain _ => 0x000#16
  | .syncMarker => 0x1#16
  | .syncData _ => 0x0#16
  | .hdrMarkerRestart | .hdrMarkerData => 0x3#16
  | .pktMarkerRestart | .pktMarkerData => 0x5#16
  | .crcMarkerRestart | .crcMarkerData => 0x7#16
  | .hdrDataOverflow _ | .hdrDataHdr0 _ | .hdrDataToken _ | .hdrDataCommand _ => 0x2#16
  | .pktDataOverflow _ | .pktDataMore _ | .pktDataLast _ => 0x4#16
  | .crcDataOverflow _ | .crcDataLow _ | .crcDataHigh _ => 0x6#16
  | .token => 0x00#16
  | .command => 0x01#16
  | .crcPass => 0x0000#16
  | .crcError => 0x0000#16

/-- The least count R23 admits in each state (with `L` = 0 in CRC). -/
def leastCount : Fsm → Nat
  | .sync => 0
  | .hdr => 1
  | .pkt => 3
  | .crc => 4

/-- The conditions of a reader that has just entered `st`, under the default parameters: after
reset this is `tableCond .sync`. -/
def tableCond (st : Fsm) : Cond :=
  { st := st, n := leastCount st, rxBufBytes := Params.default.rxBufBytes,
    midMarker := Params.default.midMarker, hdr0 := 0x01#8, cmdlen := 0x00#8 }

/-- A word of the opcode table as the host gives it. Two bytes are an input word, the only word the
block samples from outside (R53), read in the reset state; one byte is a selector FS with the DATA
byte 0x00. The wire-symbol, hdr0 and remainder words have the same numbers as input words or
selectors, so they are read by `decode` with their format, not here (DESIGN CHOICE, log entry 7). -/
def decodeTableWord (nbits w : Nat) : Option Instr :=
  if nbits ≤ 8 then
    if w < 8 then
      (decode .fsmSelect (tableCond (fsmOfCode (BitVec.ofNat 2 (w / 2)))) (BitVec.ofNat 16 w)).toOption
    else none
  else if nbits ≤ 16 && decide (w < 2 ^ 16) then
    (decode .inputWord (tableCond .sync) (BitVec.ofNat 16 w)).toOption
  else none

end Sys2Proof
end

