-- ==== Sys2Proof/Machine/State.lean ====
section
/-!
DEFINITION. The state of frame_reader (spec/10_state.md R18-R40), the reasons a step can stop, and
the state after RESET. `params` and `inputs` are the model's own fields (log entries 1 and 2): the
spec counts neither as state of the block.
-/

namespace Sys2Proof.Machine

/-- The block's state. Registers whose width is fixed are bit vectors; `n` and the three counters,
whose widths are parameters, are numbers kept in range by `inc` and by R23. -/
structure State where
  /-- Model's own: the instance's parameters R7-R10. No step changes them
  (DESIGN CHOICE, log entry 1). -/
  params : Params
  /-- Model's own: the input words the environment presents, the next one first
  (DESIGN CHOICE, log entry 2). -/
  inputs : List InputWord
  /-- R19: the FSM state, 2 bits. -/
  st : Fsm
  /-- R20: an escape marker waits for its byte, 1 bit. -/
  esc : Bool
  /-- R21: the receive buffer, `P_RX_BUF_BYTES` bytes. -/
  buf : List Byte
  /-- R22: the count of valid buffer bytes, NW bits, 0 to `P_RX_BUF_BYTES` (log entry 3). -/
  n : Nat
  /-- R24: frames received, `P_CNT_W` bits. -/
  cntFrames : Nat
  /-- R25: incomplete frames, `P_CNT_W` bits. -/
  cntIncomplete : Nat
  /-- R26: CRC errors, `P_CNT_W` bits. -/
  cntCrcErr : Nat
  /-- R27: the result of the most recent step. -/
  evCode : BitVec 3
  /-- R29: frame-type bit, 0 token, 1 command. -/
  frmKind : BitVec 1
  /-- R29: destination station id. -/
  frmDest : BitVec 6
  /-- R29: broadcast flag. -/
  frmBcast : BitVec 1
  /-- R29: source station id. -/
  frmSrc : BitVec 6
  /-- R29: sequence counter. -/
  frmSeq : BitVec 2
  /-- R29: command code. -/
  frmCmd : BitVec 4
  /-- R29: payload length. -/
  frmLen : BitVec 4
  /-- R29: `frm_payload[0..14]`, 15 bytes. -/
  frmPayload : List Byte
  deriving DecidableEq, Repr

/-- Why the machine stops. -/
inductive Fault where
  /-- Raised by a DATA symbol in a state no rule of R92-R98 covers, which breaks R23: the document's
  "undefined state value" (R130, 93_implementation_defined.md I9: fault). Unreachable from reset.
  Safe: no rule gives the hardware a behaviour there (DESIGN CHOICE, log entry 4). -/
  | undefinedState
  /-- Raised by `exec` alone, for a wire_symbol, fsm_select, frame_hdr0 or crc_check row in a state
  that does not select that row (its pattern or its condition fails); `step` never raises it. Safe:
  the block cannot perform such a row (DESIGN CHOICE, log entry 6). -/
  | rowNotSelected
  deriving DecidableEq, Repr

/-- Why an instruction has no meaning. -/
inductive Refusal where
  /-- Raised by `exec` for an instruction without a meaning; no arm of `exec` raises it now. Safe. -/
  | notModelled (mnemonic : String)
  deriving DecidableEq, Repr

/-- The outcome of a meaning or a step. -/
abbrev Result := Host.Outcome State Fault Refusal

/-- R40: the state after RESET of an instance with parameters `p`, with no input word presented. -/
def State.resetWith (p : Params) : State where
  params := p
  inputs := []
  st := .sync
  esc := false
  buf := List.replicate p.rxBufBytes 0x00#8
  n := 0
  cntFrames := 0
  cntIncomplete := 0
  cntCrcErr := 0
  evCode := 0#3
  frmKind := 0#1
  frmDest := 0#6
  frmBcast := 0#1
  frmSrc := 0#6
  frmSeq := 0#2
  frmCmd := 0#4
  frmLen := 0#4
  frmPayload := List.replicate 15 0x00#8

/-- R40, R145: the state after RESET, under the default parameters of R7-R10. -/
def State.reset : State :=
  State.resetWith Params.default

end Sys2Proof.Machine
end

