-- ==== Sys2Proof/Machine/Flags.lean ====
section
/-!
DEFINITION. The block's status: the event codes and `Emit` (spec/10_state.md R27), the counters'
`Inc` (spec/42_decode_crc.md R110), and the error report shared by the four error conditions of
spec/60_exceptions.md R129. The block has no condition codes (R37); its one flag, `esc`, is written
by the rules that name it.
-/

namespace Sys2Proof.Machine

/-- R27: no result. -/
def EV_NONE : BitVec 3 := 0#3
/-- R27: a token was emitted. -/
def EV_TOKEN : BitVec 3 := 1#3
/-- R27: a command frame was emitted. -/
def EV_COMMAND : BitVec 3 := 2#3
/-- R27: a command frame failed its CRC. -/
def EV_CRC_ERROR : BitVec 3 := 3#3
/-- R27: a timeout abandoned a partial frame. -/
def EV_INCOMPLETE : BitVec 3 := 4#3
/-- R27: the receive buffer was full. -/
def EV_OVERFLOW : BitVec 3 := 5#3
/-- R27: a marker dropped a partial frame. -/
def EV_RESTART : BitVec 3 := 6#3

/-- R13, R27: `Emit(c)`. -/
def emit (c : BitVec 3) (s : State) : State :=
  { s with evCode := c }

/-- R110: a counter of `P_CNT_W` bits, plus one. -/
def inc (p : Params) (c : Nat) : Nat :=
  (c + 1) % 2 ^ p.cntW

/-- R24, R111: one more frame received. -/
def countFrame (s : State) : State :=
  { s with cntFrames := inc s.params s.cntFrames }

/-- R25, R112: one more incomplete frame. -/
def countIncomplete (s : State) : State :=
  { s with cntIncomplete := inc s.params s.cntIncomplete }

/-- R26, R113: one more CRC error. -/
def countCrcErr (s : State) : State :=
  { s with cntCrcErr := inc s.params s.cntCrcErr }

/-- The four error conditions of R129. -/
inductive ErrorKind where
  | crcError
  | incomplete
  | overflow
  | restart
  deriving DecidableEq, Repr

/-- R129, columns "event" and "counter": what an error writes besides the sequencing state. -/
def reportError (e : ErrorKind) (s : State) : State :=
  match e with
  | .crcError => emit EV_CRC_ERROR (countCrcErr s)
  | .incomplete => emit EV_INCOMPLETE (countIncomplete s)
  | .overflow => emit EV_OVERFLOW s
  | .restart => emit EV_RESTART s

end Sys2Proof.Machine
end

