-- ==== Sys2Proof/Machine/Operands.lean ====
section
/-!
DEFINITION. The operands the rules read: the wire symbol of a byte (spec/40_input_ops.md R77-R82),
the buffer bytes and the fields of a frame (spec/30_encoding.md R58-R63), and the conditions the
opcode table reads from a state.
-/

namespace Sys2Proof.Machine

/-- A symbol of R57: what a wire byte, or an escape pair, stands for. -/
inductive Symbol where
  | data (d : Byte)
  | marker
  deriving DecidableEq, Repr

/-- R56, R78-R81: the symbol a wire byte gives, if any, and the escape flag after it. -/
def classify (esc : Bool) (b : Byte) : Option Symbol × Bool :=
  if esc then (some (.data (b ||| Config.ESC_BIT)), false)
  else if b = Config.ESCAPE then (none, true)
  else if b = Config.MARKER then (some .marker, false)
  else (some (.data b), false)

/-- R82: the symbols of a wire sequence, and the escape flag at its end. -/
def classifyAll (esc : Bool) : List Byte → List Symbol × Bool
  | [] => ([], esc)
  | b :: bs =>
    let (sym, esc') := classify esc b
    let (rest, last) := classifyAll esc' bs
    (sym.toList ++ rest, last)

/-- `buf[i]` (R21). An index outside the buffer holds no byte and no rule reads one; it reads as 0x00
here (DESIGN CHOICE, log entry 5). -/
def bufAt (s : State) (i : Nat) : Byte :=
  s.buf.getD i 0x00#8

/-- R61: the payload length field of a cmdlen byte. -/
def lenField (cmdlen : Byte) : BitVec 4 :=
  cmdlen.extractLsb' 0 4

/-- R61: the command field of a cmdlen byte. -/
def cmdField (cmdlen : Byte) : BitVec 4 :=
  cmdlen.extractLsb' 4 4

/-- R59: the frame-type field of hdr0. -/
def typeField (hdr0 : Byte) : BitVec 1 :=
  hdr0.extractLsb' 0 1

/-- R59: the broadcast field of hdr0. -/
def bcastField (hdr0 : Byte) : BitVec 1 :=
  hdr0.extractLsb' 1 1

/-- R59: the destination field of hdr0. -/
def destField (hdr0 : Byte) : BitVec 6 :=
  hdr0.extractLsb' 2 6

/-- R60: the sequence-counter field of hdr1. -/
def seqField (hdr1 : Byte) : BitVec 2 :=
  hdr1.extractLsb' 0 2

/-- R60: the source field of hdr1. -/
def srcField (hdr1 : Byte) : BitVec 6 :=
  hdr1.extractLsb' 2 6

/-- R16: `L`, the payload length of the frame being accumulated. -/
def payloadLen (s : State) : Nat :=
  (lenField (bufAt s 3)).toNat

/-- R64: the frame-type bit of the frame being accumulated. -/
def typeBit (s : State) : BitVec 1 :=
  typeField (bufAt s 1)

/-- R108: `frm_payload[0..14]` of the command frame in the buffer. -/
def payloadBytes (s : State) : List Byte :=
  (List.range 15).map fun i => if i < payloadLen s then bufAt s (4 + i) else 0x00#8

/-- What the opcode table's `condition` column reads from a state. -/
def condOf (s : State) : Cond :=
  { st := s.st, n := s.n, rxBufBytes := s.params.rxBufBytes, midMarker := s.params.midMarker,
    hdr0 := bufAt s 1, cmdlen := bufAt s 3 }

/-- The word of format `f` that the state and the byte at hand form: WS for a wire byte (R56), FS
for a DATA symbol (R57). -/
def wireWord (s : State) (b : Byte) : WireWord :=
  packWire s.esc b

/-- FS of a symbol (R57), `m` being true for a MARKER. -/
def fsWord (s : State) (m : Bool) : FsWord :=
  packFs s.st m

end Sys2Proof.Machine
end

