-- ==== Sys2Proof/Machine/Crc.lean ====
section
/-!
DEFINITION. The CRC-16 and its check (spec/42_decode_crc.md R101-R104, R117). No incremental CRC
register is state (R116).
-/

namespace Sys2Proof.Machine

/-- R101: one of the eight shifts of `CrcUpdate`. The spec itself takes this form from general
knowledge and checks it against its source's two values (log entry 13). -/
def crcShift (c : CrcWord) : CrcWord :=
  if c.getLsbD 0 then (c >>> 1) ^^^ Config.CRC_POLY_REFLECTED else c >>> 1

/-- `k` shifts. -/
def crcShifts : Nat → CrcWord → CrcWord
  | 0, c => c
  | k + 1, c => crcShifts k (crcShift c)

/-- R101: `CrcUpdate(c, b)`. -/
def crcUpdate (c : CrcWord) (b : Byte) : CrcWord :=
  crcShifts 8 (c ^^^ b.setWidth 16)

/-- R102: `Crc16(u)`. -/
def crc16 (u : List Byte) : CrcWord :=
  u.foldl crcUpdate Config.CRC_INIT

/-- R104: `s`, the buffer index the CRC starts at. -/
def crcStart (coversMarker : Bool) : Nat :=
  if coversMarker then 0 else 1

/-- R104: the bytes `buf[s .. 5+L]` the check runs over. -/
def checkedBytes (s : State) : List Byte :=
  (s.buf.take (6 + payloadLen s)).drop (crcStart s.params.crcCoversMarker)

/-- R104: the remainder `r`. -/
def remainder (s : State) : CrcWord :=
  crc16 (checkedBytes s)

end Sys2Proof.Machine
end

