-- ==== Sys2Proof/Machine/Ops.lean ====
section
/-!
DEFINITION. The shared operations: resynchronizing and starting a frame (spec/41_sync_accumulate.md
R85), storing a byte (R90), taking an error (spec/60_exceptions.md R128-R136), emitting a frame
(spec/42_decode_crc.md R104-R108), and sampling the input word (spec/00_scope.md R14).
-/

namespace Sys2Proof.Machine

/-- R85: `Resync()`. -/
def resync (s : State) : State :=
  { s with st := .sync, n := 0 }

/-- R85: `Start()`. -/
def start (s : State) : State :=
  { s with buf := s.buf.set 0 Config.MARKER, n := 1, st := .hdr }

/-- R90: what `Store(d)` does when the buffer is not full. -/
def storeByte (d : Byte) (s : State) : State :=
  { s with buf := s.buf.set s.n d, n := s.n + 1 }

/-- R90: the buffer is full, so `Store` overflows (R91). -/
abbrev BufFull (s : State) : Prop :=
  s.n = s.params.rxBufBytes

/-- R90: `Store` succeeds. -/
abbrev BufRoom (s : State) : Prop :=
  s.n < s.params.rxBufBytes

/-- R129, columns "state after" and "what is lost"; R136: where an error leaves the reader. -/
def errorEntry (e : ErrorKind) (s : State) : State :=
  match e with
  | .crcError => resync s
  | .incomplete => { resync s with esc := false }
  | .overflow => resync s
  | .restart => start s

/-- R128, R136: taking an error. It reports (event code, at most one counter) and resynchronizes or
restarts, all in the step that detects it; nothing is saved, so there is no return (R137). -/
def takeError (e : ErrorKind) (s : State) : State :=
  errorEntry e (reportError e s)

/-- R107: `EmitToken()`. -/
def emitToken (s : State) : State :=
  emit EV_TOKEN (countFrame
    { s with
      frmKind := 0#1
      frmDest := destField (bufAt s 1)
      frmBcast := bcastField (bufAt s 1)
      frmSrc := srcField (bufAt s 2)
      frmSeq := seqField (bufAt s 2)
      frmCmd := 0#4
      frmLen := 0#4
      frmPayload := List.replicate 15 0x00#8 })

/-- R108: `EmitCommand()`. -/
def emitCommand (s : State) : State :=
  emit EV_COMMAND (countFrame
    { s with
      frmKind := 1#1
      frmDest := destField (bufAt s 1)
      frmBcast := bcastField (bufAt s 1)
      frmSrc := srcField (bufAt s 2)
      frmSeq := seqField (bufAt s 2)
      frmCmd := cmdField (bufAt s 3)
      frmLen := lenField (bufAt s 3)
      frmPayload := payloadBytes s })

/-- R104: `CheckCRC()`, with `CrcError()` (R106) on a nonzero remainder. -/
def checkCrc (s : State) : State :=
  if remainder s = 0x0000#16 then emitCommand s else reportError .crcError s

/-- A row has its effect where it is selected, and none elsewhere (log entry 6). -/
def whenSelected (c : Prop) [Decidable c] (t : State) : Result :=
  if c then .next t else .fault .rowNotSelected

/-- R14, R53: the input word of this step. Where the environment presents none, no strobe is up:
the word is 0x000 (DESIGN CHOICE, log entry 2). -/
def inputWord (s : State) : InputWord :=
  s.inputs.headD 0x000#11

/-- R14, R72: sampling uses the input word up, and every step first clears `ev_code`. -/
def beginStep (s : State) : State :=
  { s with inputs := s.inputs.tail, evCode := EV_NONE }

/-- Presents `w` as the next step's input word. -/
def present (w : InputWord) (s : State) : State :=
  { s with inputs := w :: s.inputs }

/-- Puts the reader where its selector FS reads `f` in the next step: just after the step that
entered the state (R86, R94, R96, with hdr0 and cmdlen 0x01 and 0x00), with a wire byte that gives
the symbol: 0xFD for a MARKER, 0x00 for DATA. -/
def selectFs (f : FsWord) (s : State) : State :=
  let st := fsmOfCode (f.extractLsb' 1 2)
  let n := leastCount st
  present (packInput false false true (if f.getLsbD 0 then Config.MARKER else 0x00#8))
    { s with
      st := st
      n := n
      esc := false
      buf := [Config.MARKER, 0x01#8, 0x00#8, 0x00#8].take n ++ s.buf.drop n }

/-- Stores an instruction's word where the next step finds it: two bytes as the input word, one byte
as the selector FS (`Sys2Proof.decodeTableWord` reads them so; DESIGN CHOICE, log entry 7). -/
def placeWord (nbits w : Nat) (s : State) : State :=
  if nbits ≤ 8 then selectFs (BitVec.ofNat 3 w) s else present (BitVec.ofNat 11 w) s

end Sys2Proof.Machine
end

