-- ==== Sys2Proof/Machine/Emission.lean ====
section
/-!
DEFINITION. The frame_hdr0 and crc_check rows (spec/42_decode_crc.md R104-R108). They run inside
the step that stores a frame's last byte, between `Store` and `Resync` (DEDUCED, log entry 11).
-/

namespace Sys2Proof.Machine

/-- R104: the reader stands at the end of a command frame, its last CRC byte stored. -/
abbrev AtFrameEnd (s : State) : Prop :=
  s.st = .crc ∧ s.n = 6 + payloadLen s

/-- TOKEN (R107): the third byte is stored and `buf[1][0]` is 0. -/
def execToken (s : State) : Result :=
  whenSelected (s.st = .hdr ∧ s.n = 3 ∧ typeBit s = 0#1) (emitToken s)

/-- COMMAND (R108): a complete command frame passed its check and `buf[1][0]` is 1. -/
def execCommand (s : State) : Result :=
  whenSelected (AtFrameEnd s ∧ remainder s = 0x0000#16 ∧ typeBit s = 1#1) (emitCommand s)

/-- CRC_PASS (R105): the remainder is 0. -/
def execCrcPass (s : State) : Result :=
  whenSelected (AtFrameEnd s ∧ remainder s = 0x0000#16) (emitCommand s)

/-- CRC_ERROR (R106): the remainder is not 0. The caller resynchronizes (R98). -/
def execCrcError (s : State) : Result :=
  whenSelected (AtFrameEnd s ∧ remainder s ≠ 0x0000#16) (reportError .crcError s)

end Sys2Proof.Machine
end

