-- ==== Sys2Proof/Machine/FsmSelect.lean ====
section
/-!
DEFINITION. The fsm_select rows (spec/41_sync_accumulate.md R86-R98): one meaning for each pair of
state and symbol, split by count, and the two dispatches over them, `symData` and `symMarker`
(spec/30_encoding.md R57).
-/

namespace Sys2Proof.Machine

/-- R90: a DATA symbol in state `q` whose store succeeds. -/
abbrev StoresIn (q : Fsm) (s : State) : Prop :=
  s.st = q ∧ BufRoom s

/-- SYNC_MARKER (R86). -/
def execSyncMarker (s : State) : Result :=
  whenSelected (s.st = .sync) (start s)

/-- SYNC_DATA (R87): the symbol is discarded. -/
def execSyncData (_d : Byte) (s : State) : Result :=
  whenSelected (s.st = .sync) s

/-- HDR_MARKER_RESTART (R88). -/
def execHdrMarkerRestart (s : State) : Result :=
  whenSelected (s.st = .hdr ∧ s.params.midMarker = .restart) (takeError .restart s)

/-- PKT_MARKER_RESTART (R88). -/
def execPktMarkerRestart (s : State) : Result :=
  whenSelected (s.st = .pkt ∧ s.params.midMarker = .restart) (takeError .restart s)

/-- CRC_MARKER_RESTART (R88). -/
def execCrcMarkerRestart (s : State) : Result :=
  whenSelected (s.st = .crc ∧ s.params.midMarker = .restart) (takeError .restart s)

/-- HDR_DATA_OVERFLOW (R91). -/
def execHdrDataOverflow (_d : Byte) (s : State) : Result :=
  whenSelected (s.st = .hdr ∧ BufFull s) (takeError .overflow s)

/-- PKT_DATA_OVERFLOW (R91). -/
def execPktDataOverflow (_d : Byte) (s : State) : Result :=
  whenSelected (s.st = .pkt ∧ BufFull s) (takeError .overflow s)

/-- CRC_DATA_OVERFLOW (R91). -/
def execCrcDataOverflow (_d : Byte) (s : State) : Result :=
  whenSelected (s.st = .crc ∧ BufFull s) (takeError .overflow s)

/-- HDR_DATA_HDR0 (R92): the new count is 2. -/
def execHdrDataHdr0 (d : Byte) (s : State) : Result :=
  whenSelected (StoresIn .hdr s ∧ (storeByte d s).n = 2) (storeByte d s)

/-- HDR_DATA_TOKEN (R93): the new count is 3 and the type bit is 0. -/
def execHdrDataToken (d : Byte) (s : State) : Result :=
  whenSelected (StoresIn .hdr s ∧ (storeByte d s).n = 3 ∧ typeBit (storeByte d s) = 0#1)
    (resync (emitToken (storeByte d s)))

/-- HDR_DATA_COMMAND (R94): the new count is 3 and the type bit is 1. -/
def execHdrDataCommand (d : Byte) (s : State) : Result :=
  whenSelected (StoresIn .hdr s ∧ (storeByte d s).n = 3 ∧ typeBit (storeByte d s) = 1#1)
    { storeByte d s with st := .pkt }

/-- PKT_DATA_MORE (R95): the new count is below `4 + L`, `L` read after the store. -/
def execPktDataMore (d : Byte) (s : State) : Result :=
  whenSelected (StoresIn .pkt s ∧ (storeByte d s).n < 4 + payloadLen (storeByte d s))
    (storeByte d s)

/-- PKT_DATA_LAST (R96): the new count is `4 + L`. -/
def execPktDataLast (d : Byte) (s : State) : Result :=
  whenSelected (StoresIn .pkt s ∧ (storeByte d s).n = 4 + payloadLen (storeByte d s))
    { storeByte d s with st := .crc }

/-- CRC_DATA_LOW (R97): the new count is `5 + L`. -/
def execCrcDataLow (d : Byte) (s : State) : Result :=
  whenSelected (StoresIn .crc s ∧ (storeByte d s).n = 5 + payloadLen (storeByte d s))
    (storeByte d s)

/-- CRC_DATA_HIGH (R98): the new count is `6 + L`; the frame is checked and the reader
resynchronizes. -/
def execCrcDataHigh (d : Byte) (s : State) : Result :=
  whenSelected (StoresIn .crc s ∧ (storeByte d s).n = 6 + payloadLen (storeByte d s))
    (resync (checkCrc (storeByte d s)))

/-- R57, R90: a DATA symbol in HDR. The overflow check comes first (R90). A count above the capacity
is outside R22's range. -/
def hdrData (d : Byte) (s : State) : Result :=
  if BufFull s then execHdrDataOverflow d s
  else if ¬BufRoom s then .fault .undefinedState
  else if s.n + 1 = 2 then execHdrDataHdr0 d s
  else if s.n + 1 = 3 then
    if typeBit (storeByte d s) = 0#1 then execHdrDataToken d s else execHdrDataCommand d s
  else .fault .undefinedState

/-- R57, R90: a DATA symbol in PKT. -/
def pktData (d : Byte) (s : State) : Result :=
  if BufFull s then execPktDataOverflow d s
  else if ¬BufRoom s then .fault .undefinedState
  else if s.n + 1 < 4 + payloadLen (storeByte d s) then execPktDataMore d s
  else if s.n + 1 = 4 + payloadLen (storeByte d s) then execPktDataLast d s
  else .fault .undefinedState

/-- R57, R90: a DATA symbol in CRC. -/
def crcData (d : Byte) (s : State) : Result :=
  if BufFull s then execCrcDataOverflow d s
  else if ¬BufRoom s then .fault .undefinedState
  else if s.n + 1 = 5 + payloadLen (storeByte d s) then execCrcDataLow d s
  else if s.n + 1 = 6 + payloadLen (storeByte d s) then execCrcDataHigh d s
  else .fault .undefinedState

/-- R57: `SymData(d)`, a DATA symbol in any state. -/
def symData (d : Byte) (s : State) : Result :=
  match s.st with
  | .sync => execSyncData d s
  | .hdr => hdrData d s
  | .pkt => pktData d s
  | .crc => crcData d s

/-- HDR_MARKER_DATA (R89): the marker is stored as data. -/
def execHdrMarkerData (s : State) : Result :=
  if s.st = .hdr ∧ s.params.midMarker = .data then symData Config.MARKER s
  else .fault .rowNotSelected

/-- PKT_MARKER_DATA (R89): the marker is stored as data. -/
def execPktMarkerData (s : State) : Result :=
  if s.st = .pkt ∧ s.params.midMarker = .data then symData Config.MARKER s
  else .fault .rowNotSelected

/-- CRC_MARKER_DATA (R89): the marker is stored as data. -/
def execCrcMarkerData (s : State) : Result :=
  if s.st = .crc ∧ s.params.midMarker = .data then symData Config.MARKER s
  else .fault .rowNotSelected

/-- R57: `SymMarker()`, a MARKER symbol in any state. -/
def symMarker (s : State) : Result :=
  match s.st, s.params.midMarker with
  | .sync, _ => execSyncMarker s
  | .hdr, .restart => execHdrMarkerRestart s
  | .hdr, .data => execHdrMarkerData s
  | .pkt, .restart => execPktMarkerRestart s
  | .pkt, .data => execPktMarkerData s
  | .crc, .restart => execCrcMarkerRestart s
  | .crc, .data => execCrcMarkerData s

end Sys2Proof.Machine
end

