-- ==== Sys2Proof/Machine/WireSymbol.lean ====
section
/-!
DEFINITION. The wire_symbol rows (spec/40_input_ops.md R78-R81): the byte classifier and unescaper.
-/

namespace Sys2Proof.Machine

/-- DATA_ESCAPED (R78): the byte after an escape marker is data with bit 0x80 restored. -/
def execDataEscaped (b : Byte) (s : State) : Result :=
  if s.esc = true then symData (b ||| Config.ESC_BIT) { s with esc := false }
  else .fault .rowNotSelected

/-- ESC_PREFIX (R79): an escape marker sets the escape flag. -/
def execEscPrefix (s : State) : Result :=
  whenSelected (s.esc = false) { s with esc := true }

/-- MARKER (R80): a frame-start marker outside an escape pair. -/
def execMarker (s : State) : Result :=
  if s.esc = false then symMarker s else .fault .rowNotSelected

/-- DATA_PLAIN (R81): any other byte stands for itself. -/
def execDataPlain (b : Byte) (s : State) : Result :=
  if s.esc = false ∧ b ≠ Config.ESCAPE ∧ b ≠ Config.MARKER then symData b s
  else .fault .rowNotSelected

end Sys2Proof.Machine
end

