-- ==== Sys2Proof/Machine/InputOps.lean ====
section
/-!
DEFINITION. The input_word rows (spec/40_input_ops.md R73-R77): the operations a step selects from
its input word. The step prologue `ev_code <- EV_NONE` (R72) is `beginStep`, run by `step`.
-/

namespace Sys2Proof.Machine

/-- RESET (R73, R143): every element of R18 takes its value of R40. -/
def execReset (s : State) : Result :=
  .next { State.resetWith s.params with inputs := s.inputs }

/-- BYTE (R77): the first matching case of R78-R81. -/
def execByte (b : Byte) (s : State) : Result :=
  if s.esc = true then execDataEscaped b s
  else if b = Config.ESCAPE then execEscPrefix s
  else if b = Config.MARKER then execMarker s
  else execDataPlain b s

/-- TIMEOUT while mid-frame (R75). Its pseudocode acts only where `st` is not SYNC (DEDUCED, log
entry 10). -/
def execTimeoutMidframe (s : State) : Result :=
  .next (if s.st ≠ .sync then takeError .incomplete s else s)

/-- TIMEOUT while synchronizing (R76). Its pseudocode acts only where `st` is SYNC (DEDUCED, log
entry 10). -/
def execTimeoutSync (s : State) : Result :=
  .next (if s.st = .sync then { s with esc := false } else s)

/-- IDLE (R74): nothing beyond the step prologue. -/
def execIdle (s : State) : Result :=
  .next s

end Sys2Proof.Machine
end

