-- ==== Sys2Proof/Machine/Dispatch.lean ====
section
/-!
DEFINITION. Every row of the opcode table and its meaning.
-/

namespace Sys2Proof.Machine

def exec (i : Instr) (s : State) : Host.Outcome State Fault Refusal :=
  match i with
  | .reset => Sys2Proof.Machine.execReset s
  | .byte b => Sys2Proof.Machine.execByte b s
  | .timeoutMidframe => Sys2Proof.Machine.execTimeoutMidframe s
  | .timeoutSync => Sys2Proof.Machine.execTimeoutSync s
  | .idle => Sys2Proof.Machine.execIdle s
  | .dataEscaped b => Sys2Proof.Machine.execDataEscaped b s
  | .escPrefix => Sys2Proof.Machine.execEscPrefix s
  | .marker => Sys2Proof.Machine.execMarker s
  | .dataPlain b => Sys2Proof.Machine.execDataPlain b s
  | .syncMarker => Sys2Proof.Machine.execSyncMarker s
  | .syncData d => Sys2Proof.Machine.execSyncData d s
  | .hdrMarkerRestart => Sys2Proof.Machine.execHdrMarkerRestart s
  | .hdrMarkerData => Sys2Proof.Machine.execHdrMarkerData s
  | .pktMarkerRestart => Sys2Proof.Machine.execPktMarkerRestart s
  | .pktMarkerData => Sys2Proof.Machine.execPktMarkerData s
  | .crcMarkerRestart => Sys2Proof.Machine.execCrcMarkerRestart s
  | .crcMarkerData => Sys2Proof.Machine.execCrcMarkerData s
  | .hdrDataOverflow d => Sys2Proof.Machine.execHdrDataOverflow d s
  | .pktDataOverflow d => Sys2Proof.Machine.execPktDataOverflow d s
  | .crcDataOverflow d => Sys2Proof.Machine.execCrcDataOverflow d s
  | .hdrDataHdr0 d => Sys2Proof.Machine.execHdrDataHdr0 d s
  | .hdrDataToken d => Sys2Proof.Machine.execHdrDataToken d s
  | .hdrDataCommand d => Sys2Proof.Machine.execHdrDataCommand d s
  | .pktDataMore d => Sys2Proof.Machine.execPktDataMore d s
  | .pktDataLast d => Sys2Proof.Machine.execPktDataLast d s
  | .crcDataLow d => Sys2Proof.Machine.execCrcDataLow d s
  | .crcDataHigh d => Sys2Proof.Machine.execCrcDataHigh d s
  | .token => Sys2Proof.Machine.execToken s
  | .command => Sys2Proof.Machine.execCommand s
  | .crcPass => Sys2Proof.Machine.execCrcPass s
  | .crcError => Sys2Proof.Machine.execCrcError s

end Sys2Proof.Machine
end

