-- ==== Sys2Proof/Machine/Step.lean ====
section
/-!
DEFINITION. One clock step (spec/00_scope.md R14): sample the input word, clear `ev_code` (R72),
perform the one operation the word selects (R54).
-/

namespace Sys2Proof.Machine

/-- R14: `Step(S, I) -> S'`, the input word taken from the environment's list. -/
def step (s : State) : Host.Outcome State Fault Refusal :=
  exec (decodeInput s.st (inputWord s)) (beginStep s)

/-- `s` with an instruction's word where the next step finds it (see `placeWord`). -/
def State.withFetchWord (s : State) (nbits w : Nat) : State :=
  placeWord nbits w s

/-- R14's `Step(S, I)` with the input word as an argument. -/
def stepOn (w : InputWord) (s : State) : Host.Outcome State Fault Refusal :=
  step (present w s)

end Sys2Proof.Machine
end

