-- ==== Sys2Proof/Machine/Encoder.lean ====
section
/-!
DEFINITION. The reference encoder (spec/43_reference_encoder.md R119-R123): the sender-side
companion functions that define the well-formed wire streams. They are no operation of the block
(R5).
-/

namespace Sys2Proof.Machine

/-- R119: the wire form of one byte after a frame's first. -/
def escByte (b : Byte) : List Byte :=
  if b = Config.MARKER ∨ b = Config.ESCAPE then [Config.ESCAPE, b &&& 0x7F#8] else [b]

/-- R119: `EscEncode(u)`; its domain is sequences of at least one byte; the empty
sequence is outside it (DESIGN CHOICE, log entry 14). -/
def escEncode : List Byte → List Byte
  | [] => []
  | u0 :: us => u0 :: us.flatMap escByte

/-- R59: hdr0 from its fields, `(destination<<2) | (broadcast<<1) | frameTypeBit`. -/
def hdr0Byte (dest : BitVec 6) (bcast kind : BitVec 1) : Byte :=
  (dest.setWidth 8 <<< 2) ||| (bcast.setWidth 8 <<< 1) ||| kind.setWidth 8

/-- R60: hdr1 from its fields, `(source<<2) | counter`. -/
def hdr1Byte (src : BitVec 6) (seq : BitVec 2) : Byte :=
  (src.setWidth 8 <<< 2) ||| seq.setWidth 8

/-- R61: cmdlen from its fields, `(command<<4) | (length & 0x0F)`. -/
def cmdlenByte (cmd : BitVec 4) (len : Nat) : Byte :=
  (cmd.setWidth 8 <<< 4) ||| (BitVec.ofNat 8 len &&& 0x0F#8)

/-- R58: the unescaped bytes of a token frame. -/
def rawToken (f : TokenFields) : List Byte :=
  [Config.MARKER, hdr0Byte f.dest f.bcast 0#1, hdr1Byte f.src f.seq]

/-- R58: the unescaped bytes of a command frame before its CRC. -/
def rawHead (f : CommandFields) : List Byte :=
  [Config.MARKER, hdr0Byte f.dest f.bcast 1#1, hdr1Byte f.src f.seq,
    cmdlenByte f.cmd f.payload.length] ++ f.payload

/-- R43, R62: the two CRC bytes, low byte first. -/
def crcBytes (c : CrcWord) : List Byte :=
  [c.extractLsb' 0 8, c.extractLsb' 8 8]

/-- R121, R122: the unescaped bytes of a command frame, CRC included. -/
def rawCommand (coversMarker : Bool) (f : CommandFields) : List Byte :=
  rawHead f ++ crcBytes (crc16 ((rawHead f).drop (crcStart coversMarker)))

/-- R120: `SerializeToken`. -/
def serializeToken (f : TokenFields) : List Byte :=
  escEncode (rawToken f)

/-- R121: `SerializeCommand`, under `P_CRC_COVERS_MARKER` (R122). -/
def serializeCommand (coversMarker : Bool) (f : CommandFields) : List Byte :=
  escEncode (rawCommand coversMarker f)

end Sys2Proof.Machine
end

