-- ==== Sys2Proof/Machine/Ports.lean ====
section
/-!
DEFINITION. The output ports (spec/10_state.md R28, R30, R33, R34). They are functions of the state
without read side effects (R48); registers that are ports themselves are read from `State`.
-/

namespace Sys2Proof.Machine

/-- R28: `ev_valid`. -/
def evValid (s : State) : Bool :=
  s.evCode != EV_NONE

/-- R30: `frame_valid`. -/
def frameValid (s : State) : Bool :=
  s.evCode == EV_TOKEN || s.evCode == EV_COMMAND

/-- R34: `stat_st`. -/
def statSt (s : State) : BitVec 2 :=
  fsmCode s.st

/-- R34: `stat_n`, NW bits. -/
def statN (s : State) : BitVec s.params.nw :=
  BitVec.ofNat _ s.n

/-- R34: `stat_esc`. -/
def statEsc (s : State) : BitVec 1 :=
  BitVec.ofBool s.esc

/-- R24: the `cnt_frames` port, `P_CNT_W` bits. -/
def cntFramesPort (s : State) : BitVec s.params.cntW :=
  BitVec.ofNat _ s.cntFrames

/-- R25: the `cnt_incomplete` port, `P_CNT_W` bits. -/
def cntIncompletePort (s : State) : BitVec s.params.cntW :=
  BitVec.ofNat _ s.cntIncomplete

/-- R26: the `cnt_crc_err` port, `P_CNT_W` bits. -/
def cntCrcErrPort (s : State) : BitVec s.params.cntW :=
  BitVec.ofNat _ s.cntCrcErr

/-- R29: `frm_payload[i]`. -/
def frmPayloadAt (s : State) (i : Fin 15) : Byte :=
  s.frmPayload.getD i.val 0x00#8

end Sys2Proof.Machine
end

