-- ==== Sys2Proof/Safety.lean ====
section
/-!
DEFINITION. The terms statements are made in: the invariant of spec/10_state.md R23 with the ranges
of R19-R29, the states an instance can reach, and streams of input words fed to the block.
-/

namespace Sys2Proof.Machine

/-- R23: the six clauses of the invariant. `L` is `payloadLen s` (R16). -/
abbrev CountsAgree (s : State) : Prop :=
  (s.st = .sync ↔ s.n = 0)
  ∧ (s.st = .hdr → s.n = 1 ∨ s.n = 2)
  ∧ (s.st = .pkt → s.n = 3 ∨ (4 ≤ s.n ∧ s.n ≤ 3 + payloadLen s))
  ∧ (s.st = .crc → s.n = 4 + payloadLen s ∨ s.n = 5 + payloadLen s)
  ∧ (1 ≤ s.n → bufAt s 0 = 0xFD#8)
  ∧ s.n ≤ s.params.rxBufBytes

/-- The sizes and ranges of R7, R8, R21, R24-R27, R29: what the types of `State` leave open. Event
code 7 is reserved (R27). -/
abbrev InRange (s : State) : Prop :=
  s.params.Wf
  ∧ s.buf.length = s.params.rxBufBytes
  ∧ s.cntFrames < 2 ^ s.params.cntW
  ∧ s.cntIncomplete < 2 ^ s.params.cntW
  ∧ s.cntCrcErr < 2 ^ s.params.cntW
  ∧ s.evCode ≠ 7#3
  ∧ s.frmPayload.length = 15

/-- The invariant of a running block. -/
abbrev BlockInv (s : State) : Prop :=
  CountsAgree s ∧ InRange s

/-- R29: what the frame output registers hold whatever frame was emitted last: a token shows no
command and no length, and payload bytes from `frm_len` up are 0x00. -/
abbrev FrameTidy (s : State) : Prop :=
  (s.frmKind = 0#1 → s.frmCmd = 0#4 ∧ s.frmLen = 0#4)
  ∧ s.frmPayload.length = 15
  ∧ ∀ i < 15, s.frmLen.toNat ≤ i → s.frmPayload.getD i 0x00#8 = 0x00#8

/-- The states an instance with parameters `p` reaches from the state of R40, whatever input words
the environment presents (R145). -/
inductive Reachable (p : Params) : State → Prop where
  | reset (ws : List InputWord) : Reachable p { State.resetWith p with inputs := ws }
  | step {s t : State} : Reachable p s → Machine.step s = .next t → Reachable p t

/-- The state a result goes on with, if it does. -/
def nextOf (r : Result) : Option State :=
  match r with
  | .next t => some t
  | .fault _ => none
  | .refused _ => none

/-- Every frame output register (R29) holds the same in `t` as in `s`. -/
abbrev SameFrame (s t : State) : Prop :=
  t.frmKind = s.frmKind ∧ t.frmDest = s.frmDest ∧ t.frmBcast = s.frmBcast ∧ t.frmSrc = s.frmSrc
  ∧ t.frmSeq = s.frmSeq ∧ t.frmCmd = s.frmCmd ∧ t.frmLen = s.frmLen ∧ t.frmPayload = s.frmPayload

/-- Feeds a list of input words, one a step (R14), stopping at the first step that is not next. -/
def feed : List InputWord → State → Result
  | [], s => .next s
  | w :: ws, s =>
    match stepOn w s with
    | .next t => feed ws t
    | .fault r => .fault r
    | .refused r => .refused r

/-- The event code after each step of a feed, as far as it goes. -/
def events : List InputWord → State → List (BitVec 3)
  | [], _ => []
  | w :: ws, s =>
    match stepOn w s with
    | .next t => t.evCode :: events ws t
    | .fault _ => []
    | .refused _ => []

/-- The wire byte an input word delivers: rst = 0 and rx_valid = 1 (R54, row BYTE). -/
def wordByte (w : InputWord) : Option Byte :=
  if w.getLsbD 10 = false ∧ w.getLsbD 8 = true then some (w.extractLsb' 0 8) else none

/-- No strobe is up (R54, row IDLE). -/
def isIdle (w : InputWord) : Bool :=
  !w.getLsbD 10 && !w.getLsbD 9 && !w.getLsbD 8

/-- The input words deliver the wire bytes `bs` in order, with IDLE steps anywhere among them but
not after the last byte, and with no TIMEOUT and no RESET (R124). -/
abbrev FeedOf (ws : List InputWord) (bs : List Byte) : Prop :=
  (∀ w ∈ ws, (wordByte w).isSome = true ∨ isIdle w = true)
  ∧ ws.filterMap wordByte = bs
  ∧ (ws.getLast?.bind wordByte).isSome = true

/-- R71's notation `B: xx yy ...`: one BYTE step for each wire byte. -/
def byteSteps (bs : List Byte) : List InputWord :=
  bs.map (packInput false false true)

/-- The states `s` and `t` agree in everything but the buffer bytes from the count up, which no rule
reads (R21). -/
abbrev SameButStaleBytes (s t : State) : Prop :=
  t = { s with buf := t.buf } ∧ t.buf.length = s.buf.length ∧ ∀ i < s.n, bufAt t i = bufAt s i

/-- The same block with a buffer of `q` bytes (R7): its first 21 bytes are kept. -/
def withCapacity (q : Nat) (s : State) : State :=
  { s with
    params := { s.params with rxBufBytes := q }
    buf := s.buf.take 21 ++ List.replicate (q - 21) 0x00#8 }

/-- The state with other counter values. -/
def withCounters (a b c : Nat) (s : State) : State :=
  { s with cntFrames := a, cntIncomplete := b, cntCrcErr := c }

end Sys2Proof.Machine
end

