-- ==== Sys2Proof/Certificates/Slice0/Obligations.lean ====
section
/-!
DEFINITION. The statements for the provers, in the order of spec/. A statement about one row gives
the whole next state, so it is also the row's frame: what it does not name is unchanged. Numbers are
written out from the spec (event codes R27, markers R11), not taken from the model's constants.
-/

open Sys2Proof Sys2Proof.Machine

/-! ## Parameters, state and reset -/

/-- R7 (00_scope.md): "Values above 21 behave exactly as 21". A block whose buffer is larger does
the same, byte for byte, in every step. -/
def Obligations.LargeBuffersBehaveAlike : Prop :=
  ∀ (s t : State) (w : InputWord) (q : Nat), BlockInv s → 21 ≤ s.params.rxBufBytes → 21 ≤ q →
    stepOn w s = .next t → stepOn w (withCapacity q s) = .next (withCapacity q t)

/-- R18, R38: no step changes the parameters; each step uses up one input word. That both stand in
`State` is the model's choice (log entries 1 and 2). -/
def Obligations.ParametersNeverChange : Prop :=
  ∀ s t : State, step s = .next t → t.params = s.params ∧ t.inputs = s.inputs.tail

/-- R21, an inference the spec marks as its own: buffer bytes from the count up are read by no rule:
states that agree but for them step to states that agree but for them. -/
def Obligations.StaleBufferBytesAreUnobservable : Prop :=
  ∀ (s s' t : State) (w : InputWord), BlockInv s → SameButStaleBytes s s' → stepOn w s = .next t →
    ∃ t', stepOn w s' = .next t' ∧ SameButStaleBytes t t'

/-- R23, an inference the spec marks as its own ("[derived: from ...]"): every reachable state
satisfies the invariant. -/
def Obligations.ReachableStatesSatisfyInvariant : Prop :=
  ∀ (p : Params) (s : State), p.Wf → Reachable p s → BlockInv s

/-- R23, an inference the spec marks as its own: every step keeps the invariant, from every state
that satisfies it. -/
def Obligations.StepKeepsInvariant : Prop :=
  ∀ s t : State, BlockInv s → step s = .next t → BlockInv t

/-- R23, R40: the reset state satisfies the invariant, under every parameter values R7 and R8
admit. -/
def Obligations.ResetStateSatisfiesInvariant : Prop :=
  BlockInv State.reset ∧ ∀ p : Params, p.Wf → BlockInv (State.resetWith p)

/-- R29: every step keeps the frame output registers tidy: a token shows no command, no length and
an all-zero payload, and payload bytes from `frm_len` up are 0x00. -/
def Obligations.FrameRegistersStayTidy : Prop :=
  FrameTidy State.reset ∧ ∀ s t : State, FrameTidy s → step s = .next t → FrameTidy t

/-- R31: a step that is no RESET and emits no frame leaves every frame output register as it was. -/
def Obligations.FrameRegistersHoldBetweenFrames : Prop :=
  ∀ (s t : State) (w : InputWord), w.getLsbD 10 = false → stepOn w s = .next t →
    t.evCode ≠ 1#3 → t.evCode ≠ 2#3 → SameFrame s t

/-- R40: the table of reset values, under the default parameters (log entry 1). -/
def Obligations.ResetStateHoldsItsTable : Prop :=
  State.reset.st = .sync ∧ State.reset.esc = false ∧ State.reset.n = 0
  ∧ State.reset.buf = List.replicate 21 0x00#8
  ∧ State.reset.cntFrames = 0 ∧ State.reset.cntIncomplete = 0 ∧ State.reset.cntCrcErr = 0
  ∧ State.reset.evCode = 0#3 ∧ State.reset.frmKind = 0#1 ∧ State.reset.frmDest = 0#6
  ∧ State.reset.frmBcast = 0#1 ∧ State.reset.frmSrc = 0#6 ∧ State.reset.frmSeq = 0#2
  ∧ State.reset.frmCmd = 0#4 ∧ State.reset.frmLen = 0#4
  ∧ State.reset.frmPayload = List.replicate 15 0x00#8

/-- R28, R30, R33, R34: what the output ports show. The count and the counters fit their ports. -/
def Obligations.OutputPortsShowTheState : Prop :=
  ∀ s : State, BlockInv s →
    (evValid s = true ↔ s.evCode ≠ 0#3)
    ∧ (frameValid s = true ↔ s.evCode = 1#3 ∨ s.evCode = 2#3)
    ∧ statSt s = (match s.st with
        | .sync => 0b00#2
        | .hdr => 0b01#2
        | .pkt => 0b10#2
        | .crc => 0b11#2)
    ∧ (statN s).toNat = s.n
    ∧ (statEsc s = 1#1 ↔ s.esc = true)
    ∧ (cntFramesPort s).toNat = s.cntFrames
    ∧ (cntIncompletePort s).toNat = s.cntIncomplete
    ∧ (cntCrcErrPort s).toNat = s.cntCrcErr
    ∧ ∀ i : Fin 15, some (frmPayloadAt s i) = s.frmPayload[i.val]?

/-! ## Encoding -/

/-- R53, R54: the input word packs the four ports; exactly one of the four patterns fits it, and it
selects the operation by priority: rst, then rx_valid, then rx_timeout. -/
def Obligations.InputWordSelectsOneOperation : Prop :=
  (∀ (r t v : Bool) (d : Byte),
    (packInput r t v d).getLsbD 10 = r ∧ (packInput r t v d).getLsbD 9 = t
    ∧ (packInput r t v d).getLsbD 8 = v ∧ (packInput r t v d).extractLsb' 0 8 = d)
  ∧ ∀ (st : Fsm) (w : InputWord),
    ([(0x400#11, 0x400#11), (0x500#11, 0x100#11), (0x700#11, 0x200#11), (0x700#11, 0x000#11)].filter
      (fun row => w &&& row.1 == row.2)).length = 1
    ∧ decodeInput st w =
        if w.getLsbD 10 then .reset
        else if w.getLsbD 8 then .byte (w.extractLsb' 0 8)
        else if w.getLsbD 9 then (if st = .sync then .timeoutSync else .timeoutMidframe)
        else .idle

/-- R55: without rx_valid the data byte is not read, and RESET reads no other bit. -/
def Obligations.UnreadInputBitsDoNotMatter : Prop :=
  ∀ (s : State) (t t' v v' : Bool) (d d' : Byte),
    (∀ r : Bool, stepOn (packInput r t false d) s = stepOn (packInput r t false d') s)
    ∧ stepOn (packInput true t v d) s = stepOn (packInput true t' v' d') s

/-- R57, R90: a symbol is handled by the row its selector FS and the table's conditions select;
where no row's condition holds (R23 broken) a DATA symbol stops as `undefinedState`, the model's
choice (log entry 4). -/
def Obligations.SymbolsRunTheSelectedRow : Prop :=
  ∀ (s : State) (d : Byte), s.buf.length = s.params.rxBufBytes →
    (∀ i, decodeFsm (condOf s) (fsWord s false) d = .ok i → symData d s = exec i s)
    ∧ (∀ e, decodeFsm (condOf s) (fsWord s false) d = .error e → symData d s = .fault .undefinedState)
    ∧ ∃ i, decodeFsm (condOf s) (fsWord s true) d = .ok i ∧ symMarker s = exec i s

/-- Decoding the word of a well-formed instruction gives the instruction back, for every row and
every operand, under every condition of the table that selects the row. The layout of an fsm_select
word and CRC_ERROR's word are the model's choice (log entry 8). -/
def Obligations.DecodeOfEncodeIsTheInstruction : Prop :=
  ∀ (i : Instr) (c : Cond), i.wellFormed = true → rowCondition c i = true →
    decode i.format c (encode i) = .ok i

/-- What the decoder reads is a row of the table: of the word's format, in range, with its condition
met and its match under its mask. -/
def Obligations.DecodedWordsMatchTheirRow : Prop :=
  ∀ (f : Format) (c : Cond) (w : InstrWord) (i : Instr), decode f c w = .ok i →
    i.format = f ∧ i.wellFormed = true ∧ rowCondition c i = true ∧ w &&& rowMask i = rowMatch i

/-- R59-R61, R63: the fields the decoder extracts from the header bytes are those they were built
from. -/
def Obligations.HeaderFieldsComeBack : Prop :=
  (∀ (d : BitVec 6) (b k : BitVec 1), destField (hdr0Byte d b k) = d
    ∧ bcastField (hdr0Byte d b k) = b ∧ typeField (hdr0Byte d b k) = k)
  ∧ (∀ (s : BitVec 6) (q : BitVec 2), srcField (hdr1Byte s q) = s ∧ seqField (hdr1Byte s q) = q)
  ∧ ∀ (c : BitVec 4) (l : Nat), l ≤ 15 →
      cmdField (cmdlenByte c l) = c ∧ (lenField (cmdlenByte c l)).toNat = l

/-- Words written out from the spec's encodings decode to the rows they stand for; an fsm_select
word's layout is the model's choice (log entry 8). -/
def Obligations.SampleWordsDecode : Prop :=
  decode .inputWord (tableCond .sync) 0x1FD#16 = .ok (.byte 0xFD#8)
  ∧ decode .inputWord (tableCond .hdr) 0x200#16 = .ok .timeoutMidframe
  ∧ decode .inputWord (tableCond .sync) 0x0FD#16 = .ok .idle
  ∧ decode .wireSymbol (tableCond .sync) 0x17D#16 = .ok (.dataEscaped 0x7D#8)
  ∧ decode .fsmSelect (tableCond .hdr) 0x0502#16 = .ok (.hdrDataHdr0 0x05#8)
  ∧ decode .fsmSelect (tableCond .pkt) 0x1404#16 = .ok (.pktDataMore 0x14#8)
  ∧ decode .frameHdr0 (tableCond .hdr) 0x42#16 = .ok .token
  ∧ decode .crcCheck (tableCond .crc) 0x1189#16 = .ok .crcError

/-! ## The step and the input operations -/

/-- R14, R72: the sampled word always decodes, and a step runs the decoded instruction on the state
with the word used up (log entry 2) and `ev_code` cleared. -/
def Obligations.StepRunsTheDecodedInstruction : Prop :=
  ∀ s : State,
    (∃ i, decode .inputWord (condOf s) ((inputWord s).setWidth 16) = .ok i)
    ∧ ∀ i, decode .inputWord (condOf s) ((inputWord s).setWidth 16) = .ok i →
        step s = exec i { s with inputs := s.inputs.tail, evCode := 0#3 }

/-- R40, R73: RESET, from any state and whatever the other input bits, sets every element of R18 to
its value of R40. -/
def Obligations.ResetClearsTheBlock : Prop :=
  ∀ s t : State,
    t =
      { params := s.params, inputs := s.inputs, st := .sync, esc := false, n := 0
        buf := List.replicate s.params.rxBufBytes 0x00#8
        cntFrames := 0, cntIncomplete := 0, cntCrcErr := 0, evCode := 0#3
        frmKind := 0#1, frmDest := 0#6, frmBcast := 0#1, frmSrc := 0#6, frmSeq := 0#2
        frmCmd := 0#4, frmLen := 0#4, frmPayload := List.replicate 15 0x00#8 } →
    exec .reset s = .next t ∧ ∀ w : InputWord, w.getLsbD 10 = true → stepOn w s = .next t

/-- R143: while `rst` is high every step is a RESET, whatever the other inputs, and holding it
repeats the same result. -/
def Obligations.HeldResetRepeats : Prop :=
  ∀ (s : State) (ws : List InputWord), ws ≠ [] → (∀ w ∈ ws, w.getLsbD 10 = true) →
    feed ws s = .next { State.resetWith s.params with inputs := s.inputs }

/-- R74: IDLE changes nothing beyond the step prologue. -/
def Obligations.IdleChangesNothing : Prop :=
  ∀ (s : State) (d : Byte), exec .idle s = .next s
    ∧ stepOn (packInput false false false d) s = .next { s with evCode := 0#3 }

/-- R154, an inference the spec marks as its own: an IDLE step anywhere in a stream changes nothing
of what the steps after it do. -/
def Obligations.IdleStepsAreTransparent : Prop :=
  ∀ (s : State) (ws vs : List InputWord) (v : InputWord) (d : Byte),
    feed (ws ++ packInput false false false d :: v :: vs) s = feed (ws ++ v :: vs) s

/-- R75: a TIMEOUT mid-frame counts an incomplete frame, resynchronizes, clears a pending escape and
reports EV_INCOMPLETE; the frame output registers are unchanged. -/
def Obligations.TimeoutAbandonsThePartialFrame : Prop :=
  ∀ (s : State) (d : Byte), s.st ≠ .sync →
    exec .timeoutMidframe s = .next
      { s with cntIncomplete := (s.cntIncomplete + 1) % 2 ^ s.params.cntW, st := .sync, n := 0
               esc := false, evCode := 4#3 }
    ∧ stepOn (packInput false true false d) s = .next
      { s with cntIncomplete := (s.cntIncomplete + 1) % 2 ^ s.params.cntW, st := .sync, n := 0
               esc := false, evCode := 4#3 }

/-- R76: a TIMEOUT in SYNC only clears a pending escape. -/
def Obligations.TimeoutInSyncClearsTheEscape : Prop :=
  ∀ (s : State) (d : Byte), s.st = .sync →
    exec .timeoutSync s = .next { s with esc := false }
    ∧ stepOn (packInput false true false d) s = .next { s with esc := false, evCode := 0#3 }

/-- R56, R77: a BYTE step, with or without rx_timeout, performs the row of its wire symbol, the
first that matches. -/
def Obligations.ByteRunsItsWireSymbol : Prop :=
  ∀ (s : State) (b : Byte) (t : Bool),
    exec (.byte b) s = exec (decodeWire (wireWord s b)) s
    ∧ stepOn (packInput false t true b) s = exec (decodeWire (wireWord s b)) { s with evCode := 0#3 }
    ∧ decodeWire (wireWord s b) =
        if s.esc then .dataEscaped b
        else if b = 0xFC#8 then .escPrefix
        else if b = 0xFD#8 then .marker
        else .dataPlain b

/-- R77: BYTE completes in every state that satisfies R23's invariant, and keeps it; the escape flag
after it is the classifier's. That it completes and keeps the invariant rests on R23 and R130,
inferences the spec marks as its own. -/
def Obligations.ByteCompletes : Prop :=
  ∀ (s : State) (b : Byte), BlockInv s →
    ∃ t, exec (.byte b) s = .next t ∧ BlockInv t ∧ t.inputs = s.inputs
      ∧ t.esc = (!s.esc && b == 0xFC#8)

/-- R78: the byte after an escape marker is data with bit 0x80 restored, in every state of the
reader. It completes wherever R23's invariant holds, and keeps it: that clause rests on R23 and
R130, inferences the spec marks as its own. -/
def Obligations.EscapedByteIsData : Prop :=
  ∀ (s : State) (b : Byte), s.esc = true →
    exec (.dataEscaped b) s = symData (b ||| 0x80#8) { s with esc := false }
    ∧ (BlockInv s → ∃ t, exec (.dataEscaped b) s = .next t ∧ t.esc = false ∧ BlockInv t)

/-- R79: an escape marker outside an escape pair sets the escape flag and nothing else. -/
def Obligations.EscapeMarkerSetsTheFlag : Prop :=
  ∀ s : State, s.esc = false →
    exec .escPrefix s = .next { s with esc := true }
    ∧ exec (.byte 0xFC#8) s = .next { s with esc := true }

/-- R80: a marker byte outside an escape pair is a MARKER symbol; in SYNC it emits no event,
mid-frame under RESTART it emits EV_RESTART, and it is the only way out of SYNC. It completes
wherever R23's invariant holds, and keeps it: that clause rests on R23 and R130, inferences the spec
marks as its own. -/
def Obligations.MarkerByteIsAMarker : Prop :=
  ∀ s : State, s.esc = false →
    exec .marker s = symMarker s
    ∧ (BlockInv s → ∃ t, exec .marker s = .next t ∧ BlockInv t ∧ t.esc = false
        ∧ (s.st = .sync → t.evCode = s.evCode)
        ∧ (s.st ≠ .sync → s.params.midMarker = .restart → t.evCode = 6#3))
    ∧ (s.st = .sync → ∀ (t : State) (w : InputWord), stepOn w s = .next t → t.st ≠ .sync →
          w.getLsbD 10 = false ∧ w.getLsbD 8 = true ∧ w.extractLsb' 0 8 = 0xFD#8 ∧ s.esc = false)

/-- R81: any other byte outside an escape pair is data as it stands. It completes wherever R23's
invariant holds, and keeps it: that clause rests on R23 and R130, inferences the spec marks as its
own. -/
def Obligations.PlainByteIsData : Prop :=
  ∀ (s : State) (b : Byte), s.esc = false → b ≠ 0xFC#8 → b ≠ 0xFD#8 →
    exec (.dataPlain b) s = symData b s
    ∧ (BlockInv s → ∃ t, exec (.dataPlain b) s = .next t ∧ t.esc = false ∧ BlockInv t)

/-- R82, an inference the spec marks as its own: a BYTE acts on the state by the symbol the
classifier gives, and the wire form of any unescaped sequence that starts with the marker classifies
to MARKER and then its bytes as DATA, no escape pending at the end. -/
def Obligations.UnescapeInvertsEscape : Prop :=
  (∀ (s : State) (b : Byte), exec (.byte b) s =
    match classify s.esc b with
    | (none, e) => .next { s with esc := e }
    | (some (.data d), e) => symData d { s with esc := e }
    | (some .marker, e) => symMarker { s with esc := e })
  ∧ ∀ u : List Byte,
      classifyAll false (escEncode (0xFD#8 :: u)) = (.marker :: u.map .data, false)

/-- R87, and R146, which the spec marks as its own inference: in SYNC a stream of wire bytes without
a MARKER symbol is discarded: only the escape flag moves. -/
def Obligations.SyncDiscardsUntilAMarker : Prop :=
  ∀ (s : State) (bs : List Byte), s.st = .sync → bs ≠ [] →
    Symbol.marker ∉ (classifyAll s.esc bs).1 →
    feed (byteSteps bs) s = .next { s with esc := (classifyAll s.esc bs).2, evCode := 0#3 }

/-! ## Synchronizer and accumulator -/

/-- R86: a marker in SYNC starts a frame, and only a marker leaves SYNC. -/
def Obligations.SyncMarkerStartsAFrame : Prop :=
  ∀ s : State, s.st = .sync →
    exec .syncMarker s = .next { s with buf := s.buf.set 0 0xFD#8, n := 1, st := .hdr }
    ∧ symMarker s = .next { s with buf := s.buf.set 0 0xFD#8, n := 1, st := .hdr }
    ∧ ∀ (t : State) (w : InputWord), stepOn w s = .next t → t.st ≠ .sync →
        w.getLsbD 10 = false ∧ w.getLsbD 8 = true ∧ w.extractLsb' 0 8 = 0xFD#8 ∧ s.esc = false

/-- R87: data in SYNC is discarded. -/
def Obligations.SyncDataIsDiscarded : Prop :=
  ∀ (s : State) (d : Byte), s.st = .sync →
    exec (.syncData d) s = .next s ∧ symData d s = .next s

/-- R88: under RESTART a marker mid-frame drops the partial frame and starts a new one. -/
def Obligations.MidFrameMarkerRestarts : Prop :=
  ∀ (s t : State), s.params.midMarker = .restart →
    t = { s with buf := s.buf.set 0 0xFD#8, n := 1, st := .hdr, evCode := 6#3 } →
    (s.st = .hdr → exec .hdrMarkerRestart s = .next t ∧ symMarker s = .next t)
    ∧ (s.st = .pkt → exec .pktMarkerRestart s = .next t ∧ symMarker s = .next t)
    ∧ (s.st = .crc → exec .crcMarkerRestart s = .next t ∧ symMarker s = .next t)

/-- R89: under DATA a marker mid-frame is handled as the DATA symbol 0xFD. It completes wherever
R23's invariant holds, and keeps it: that clause rests on R23 and R130, inferences the spec marks as
its own. -/
def Obligations.MidFrameMarkerIsData : Prop :=
  ∀ s : State, s.params.midMarker = .data →
    (s.st = .hdr → exec .hdrMarkerData s = symData 0xFD#8 s ∧ symMarker s = symData 0xFD#8 s
      ∧ (BlockInv s → ∃ t, exec .hdrMarkerData s = .next t ∧ BlockInv t))
    ∧ (s.st = .pkt → exec .pktMarkerData s = symData 0xFD#8 s ∧ symMarker s = symData 0xFD#8 s
      ∧ (BlockInv s → ∃ t, exec .pktMarkerData s = .next t ∧ BlockInv t))
    ∧ (s.st = .crc → exec .crcMarkerData s = symData 0xFD#8 s ∧ symMarker s = symData 0xFD#8 s
      ∧ (BlockInv s → ∃ t, exec .crcMarkerData s = .next t ∧ BlockInv t))

/-- R91: a DATA symbol that finds the buffer full is lost with the partial frame. -/
def Obligations.FullBufferOverflows : Prop :=
  ∀ (s t : State) (d : Byte), s.n = s.params.rxBufBytes →
    t = { s with st := .sync, n := 0, evCode := 5#3 } →
    (s.st = .hdr → exec (.hdrDataOverflow d) s = .next t ∧ symData d s = .next t)
    ∧ (s.st = .pkt → exec (.pktDataOverflow d) s = .next t ∧ symData d s = .next t)
    ∧ (s.st = .crc → exec (.crcDataOverflow d) s = .next t ∧ symData d s = .next t)

/-- R92: the first header byte is stored. -/
def Obligations.FirstHeaderByteIsStored : Prop :=
  ∀ (s : State) (d : Byte), s.st = .hdr → s.n = 1 → 1 < s.params.rxBufBytes →
    exec (.hdrDataHdr0 d) s = .next { s with buf := s.buf.set 1 d, n := 2 }
    ∧ symData d s = .next { s with buf := s.buf.set 1 d, n := 2 }

/-- R93, R107: the second header byte of a token completes it. -/
def Obligations.SecondHeaderByteCompletesAToken : Prop :=
  ∀ (s t : State) (d : Byte), s.st = .hdr → s.n = 2 → 2 < s.params.rxBufBytes →
    s.buf.length = s.params.rxBufBytes → (bufAt s 1).getLsbD 0 = false →
    t = { s with
          buf := s.buf.set 2 d, n := 0, st := .sync
          frmKind := 0#1
          frmDest := (bufAt s 1).extractLsb' 2 6, frmBcast := (bufAt s 1).extractLsb' 1 1
          frmSrc := d.extractLsb' 2 6, frmSeq := d.extractLsb' 0 2
          frmCmd := 0#4, frmLen := 0#4, frmPayload := List.replicate 15 0x00#8
          cntFrames := (s.cntFrames + 1) % 2 ^ s.params.cntW, evCode := 1#3 } →
    exec (.hdrDataToken d) s = .next t ∧ symData d s = .next t

/-- R94: the second header byte of a command frame moves the reader to ReadingPacket. -/
def Obligations.SecondHeaderByteOpensACommand : Prop :=
  ∀ (s : State) (d : Byte), s.st = .hdr → s.n = 2 → 2 < s.params.rxBufBytes →
    s.buf.length = s.params.rxBufBytes → (bufAt s 1).getLsbD 0 = true →
    exec (.hdrDataCommand d) s = .next { s with buf := s.buf.set 2 d, n := 3, st := .pkt }
    ∧ symData d s = .next { s with buf := s.buf.set 2 d, n := 3, st := .pkt }

/-- R95, R96: in ReadingPacket a byte is stored, and the reader moves to ReadingCRC when the new
count is `4 + L`. The cmdlen byte just stored (count 3) gives `L` itself. -/
def Obligations.PacketBytesAreStored : Prop :=
  ∀ (s : State) (d : Byte) (l : Nat), s.st = .pkt → 3 ≤ s.n → s.n < s.params.rxBufBytes →
    s.buf.length = s.params.rxBufBytes →
    l = ((if s.n = 3 then d else bufAt s 3).extractLsb' 0 4).toNat →
    (s.n + 1 < 4 + l →
      exec (.pktDataMore d) s = .next { s with buf := s.buf.set s.n d, n := s.n + 1 }
      ∧ symData d s = .next { s with buf := s.buf.set s.n d, n := s.n + 1 })
    ∧ (s.n + 1 = 4 + l →
      exec (.pktDataLast d) s = .next { s with buf := s.buf.set s.n d, n := s.n + 1, st := .crc }
      ∧ symData d s = .next { s with buf := s.buf.set s.n d, n := s.n + 1, st := .crc })

/-- R97: the CRC's low byte is stored. -/
def Obligations.CrcLowByteIsStored : Prop :=
  ∀ (s : State) (d : Byte), s.st = .crc → s.n = 4 + ((bufAt s 3).extractLsb' 0 4).toNat →
    s.n < s.params.rxBufBytes →
    exec (.crcDataLow d) s = .next { s with buf := s.buf.set s.n d, n := s.n + 1 }
    ∧ symData d s = .next { s with buf := s.buf.set s.n d, n := s.n + 1 }

/-- R98, R104-R106, R108: the CRC's high byte completes a command frame. A zero remainder emits it,
any other counts a CRC error and leaves the frame output registers alone; both resynchronize. -/
def Obligations.CrcHighByteCompletesACommand : Prop :=
  ∀ (s : State) (d : Byte) (l : Nat) (checked : List Byte),
    s.st = .crc → l = ((bufAt s 3).extractLsb' 0 4).toNat → s.n = 5 + l →
    s.n < s.params.rxBufBytes → s.buf.length = s.params.rxBufBytes →
    checked = (s.buf.take s.n ++ [d]).drop (if s.params.crcCoversMarker then 0 else 1) →
    (crc16 checked = 0x0000#16 → ∀ t : State,
      t = { s with
            buf := s.buf.set s.n d, n := 0, st := .sync
            frmKind := 1#1
            frmDest := (bufAt s 1).extractLsb' 2 6, frmBcast := (bufAt s 1).extractLsb' 1 1
            frmSrc := (bufAt s 2).extractLsb' 2 6, frmSeq := (bufAt s 2).extractLsb' 0 2
            frmCmd := (bufAt s 3).extractLsb' 4 4, frmLen := (bufAt s 3).extractLsb' 0 4
            frmPayload := (s.buf.drop 4).take l ++ List.replicate (15 - l) 0x00#8
            cntFrames := (s.cntFrames + 1) % 2 ^ s.params.cntW, evCode := 2#3 } →
      exec (.crcDataHigh d) s = .next t ∧ symData d s = .next t)
    ∧ (crc16 checked ≠ 0x0000#16 → ∀ t : State,
      t = { s with
            buf := s.buf.set s.n d, n := 0, st := .sync
            cntCrcErr := (s.cntCrcErr + 1) % 2 ^ s.params.cntW, evCode := 3#3 } →
      exec (.crcDataHigh d) s = .next t ∧ symData d s = .next t)

/-- Outside the state and condition that select it a row below input_word has no effect to give: it
stops as `rowNotSelected`; the two TIMEOUT rows leave the state as it was. This is the model's
choice (log entries 6 and 10; for the rows of a complete frame, also 11): the spec gives a row no
effect there, and no step performs one there. -/
def Obligations.RowsStopWhereNotSelected : Prop :=
  ∀ s : State, s.buf.length = s.params.rxBufBytes →
    (∀ i : Instr, i.format = .fsmSelect →
      ¬((rowMatch i).extractLsb' 1 2 = fsmCode s.st ∧ rowCondition (condOf s) i = true) →
      exec i s = .fault .rowNotSelected)
    ∧ (∀ b : Byte, s.esc = false → exec (.dataEscaped b) s = .fault .rowNotSelected)
    ∧ (s.esc = true → exec .escPrefix s = .fault .rowNotSelected
        ∧ exec .marker s = .fault .rowNotSelected)
    ∧ (∀ b : Byte, s.esc = true ∨ b = 0xFC#8 ∨ b = 0xFD#8 →
        exec (.dataPlain b) s = .fault .rowNotSelected)
    ∧ (¬(s.st = .hdr ∧ s.n = 3 ∧ (bufAt s 1).getLsbD 0 = false) →
        exec .token s = .fault .rowNotSelected)
    ∧ (¬(s.st = .crc ∧ s.n = 6 + payloadLen s ∧ remainder s = 0x0000#16) →
        exec .crcPass s = .fault .rowNotSelected ∧ exec .command s = .fault .rowNotSelected)
    ∧ ((bufAt s 1).getLsbD 0 = false → exec .command s = .fault .rowNotSelected)
    ∧ (¬(s.st = .crc ∧ s.n = 6 + payloadLen s ∧ remainder s ≠ 0x0000#16) →
        exec .crcError s = .fault .rowNotSelected)
    ∧ (s.st = .sync → exec .timeoutMidframe s = .next s)
    ∧ (s.st ≠ .sync → exec .timeoutSync s = .next s)

/-- R99, an inference the spec marks as its own: an overflow needs a buffer too small for the frame
in progress; with 21 bytes there is none. -/
def Obligations.OverflowNeedsASmallBuffer : Prop :=
  ∀ (s t : State) (w : InputWord), BlockInv s → stepOn w s = .next t → t.evCode = 5#3 →
    s.params.rxBufBytes < 21 ∧ s.n = s.params.rxBufBytes
    ∧ (4 ≤ s.n → s.params.rxBufBytes < 6 + payloadLen s)

/-- R100, an inference the spec marks as its own: after any garbage that completes no frame and
leaves no escape pending, the wire form of one frame, fed under RESTART, emits exactly that frame,
at its last byte; if the garbage left the reader mid-frame, the frame's marker gives one EV_RESTART.
-/
def Obligations.ResynchronizesAfterGarbage : Prop :=
  ∀ (s0 s1 : State) (g : List Byte), BlockInv s0 → s0.params.midMarker = .restart →
    feed (byteSteps g) s0 = .next s1 → s1.esc = false →
    (∀ e ∈ events (byteSteps g) s0, e ≠ 1#3 ∧ e ≠ 2#3) →
    (∀ f : TokenFields, ∃ t, feed (byteSteps (g ++ serializeToken f)) s0 = .next t
      ∧ events (byteSteps (g ++ serializeToken f)) s0 =
          events (byteSteps g) s0 ++ (if s1.st = .sync then 0#3 else 6#3)
            :: List.replicate ((serializeToken f).length - 2) 0#3 ++ [1#3]
      ∧ t.frmKind = 0#1 ∧ t.frmDest = f.dest ∧ t.frmBcast = f.bcast ∧ t.frmSrc = f.src
      ∧ t.frmSeq = f.seq)
    ∧ ∀ f : CommandFields, f.wellFormed = true → 6 + f.payload.length ≤ s0.params.rxBufBytes →
      ∃ t, feed (byteSteps (g ++ serializeCommand s0.params.crcCoversMarker f)) s0 = .next t
      ∧ events (byteSteps (g ++ serializeCommand s0.params.crcCoversMarker f)) s0 =
          events (byteSteps g) s0 ++ (if s1.st = .sync then 0#3 else 6#3)
            :: List.replicate ((serializeCommand s0.params.crcCoversMarker f).length - 2) 0#3
            ++ [2#3]
      ∧ t.frmKind = 1#1 ∧ t.frmDest = f.dest ∧ t.frmBcast = f.bcast ∧ t.frmSrc = f.src
      ∧ t.frmSeq = f.seq ∧ t.frmCmd = f.cmd ∧ t.frmLen = BitVec.ofNat 4 f.payload.length
      ∧ t.frmPayload = f.payload ++ List.replicate (15 - f.payload.length) 0x00#8

/-! ## CRC, emission and counters -/

/-- R101, R102: the check values of the source (95_test_vectors.md L1-1, L1-2) and the single-step
values of R101. -/
def Obligations.CrcCheckValues : Prop :=
  crc16 [0x31#8, 0x32#8, 0x33#8, 0x34#8, 0x35#8, 0x36#8, 0x37#8, 0x38#8, 0x39#8] = 0x2189#16
  ∧ crc16 [0xFD#8, 0x01#8, 0x03#8, 0x14#8, 0xBB#8, 0x01#8, 0x00#8, 0x00#8] = 0x08EB#16
  ∧ crcUpdate 0x0000#16 0x31#8 = 0x200A#16 ∧ crcUpdate 0x0000#16 0xFD#8 = 0x2C6A#16
  ∧ crcUpdate 0x0000#16 0x01#8 = 0x1189#16 ∧ crcUpdate 0x0000#16 0x80#8 = 0x8408#16
  ∧ crcUpdate 0x0000#16 0x00#8 = 0x0000#16

/-- R103, which the spec takes from general knowledge: appending the CRC, low byte first, gives
remainder zero, and no other two bytes do. -/
def Obligations.ZeroRemainder : Prop :=
  ∀ (u : List Byte) (x y : Byte),
    crc16 (u ++ [x, y]) = 0x0000#16 ↔ x = (crc16 u).extractLsb' 0 8 ∧ y = (crc16 u).extractLsb' 8 8

/-- R117, an inference the spec marks as its own: the check passes exactly when the CRC of the bytes
before the stored CRC equals the stored CRC, low byte first. -/
def Obligations.CrcCheckComparesTheStoredCrc : Prop :=
  ∀ (s : State) (l : Nat), l = ((bufAt s 3).extractLsb' 0 4).toNat → 6 + l ≤ s.buf.length →
    (remainder s = 0x0000#16 ↔
      crc16 ((s.buf.take (4 + l)).drop (if s.params.crcCoversMarker then 0 else 1))
        = bufAt s (5 + l) ++ bufAt s (4 + l))

/-- R105, R106, R108: the rows of a complete command frame, in ReadingCRC with its `6 + L` bytes
stored. COMMAND and CRC_PASS emit the frame, CRC_ERROR counts the error. That the rows start there,
inside a step, and leave `st` and `n` alone is read from R93, R98 and R104 by inference (DEDUCED,
log entry 11). -/
def Obligations.CompleteCommandIsEmittedOrCounted : Prop :=
  ∀ (s t : State) (l : Nat), s.st = .crc → l = ((bufAt s 3).extractLsb' 0 4).toNat →
    s.n = 6 + l → s.n ≤ s.buf.length →
    t = { s with
          frmKind := 1#1
          frmDest := (bufAt s 1).extractLsb' 2 6, frmBcast := (bufAt s 1).extractLsb' 1 1
          frmSrc := (bufAt s 2).extractLsb' 2 6, frmSeq := (bufAt s 2).extractLsb' 0 2
          frmCmd := (bufAt s 3).extractLsb' 4 4, frmLen := (bufAt s 3).extractLsb' 0 4
          frmPayload := (s.buf.drop 4).take l ++ List.replicate (15 - l) 0x00#8
          cntFrames := (s.cntFrames + 1) % 2 ^ s.params.cntW, evCode := 2#3 } →
    (remainder s = 0x0000#16 → exec .crcPass s = .next t
      ∧ ((bufAt s 1).getLsbD 0 = true → exec .command s = .next t))
    ∧ (remainder s ≠ 0x0000#16 → exec .crcError s = .next
        { s with cntCrcErr := (s.cntCrcErr + 1) % 2 ^ s.params.cntW, evCode := 3#3 })

/-- R107: the TOKEN row, with the token's three bytes stored, emits it. That the row starts there,
inside a step, and leaves `st` and `n` alone is read from R93 by inference (DEDUCED, log entry 11).
-/
def Obligations.CompleteTokenIsEmitted : Prop :=
  ∀ s : State, s.st = .hdr → s.n = 3 → (bufAt s 1).getLsbD 0 = false →
    exec .token s = .next
      { s with
        frmKind := 0#1
        frmDest := (bufAt s 1).extractLsb' 2 6, frmBcast := (bufAt s 1).extractLsb' 1 1
        frmSrc := (bufAt s 2).extractLsb' 2 6, frmSeq := (bufAt s 2).extractLsb' 0 2
        frmCmd := 0#4, frmLen := 0#4, frmPayload := List.replicate 15 0x00#8
        cntFrames := (s.cntFrames + 1) % 2 ^ s.params.cntW, evCode := 1#3 }

/-- R110-R113: in a step that is no RESET each counter goes up by one, modulo `2^P_CNT_W`, exactly
when the step reports its event, and stays as it was otherwise. -/
def Obligations.CountersCountTheirEvents : Prop :=
  ∀ (s t : State) (w : InputWord), w.getLsbD 10 = false → stepOn w s = .next t →
    t.cntFrames = (if t.evCode = 1#3 ∨ t.evCode = 2#3
      then (s.cntFrames + 1) % 2 ^ s.params.cntW else s.cntFrames)
    ∧ t.cntIncomplete = (if t.evCode = 4#3
      then (s.cntIncomplete + 1) % 2 ^ s.params.cntW else s.cntIncomplete)
    ∧ t.cntCrcErr = (if t.evCode = 3#3
      then (s.cntCrcErr + 1) % 2 ^ s.params.cntW else s.cntCrcErr)
    ∧ (t.evCode = 4#3 ↔ decodeInput s.st w = .timeoutMidframe)

/-- R114: counter values never change anything else: whatever they are, the step does the same. -/
def Obligations.CountersNeverSteer : Prop :=
  ∀ (s t : State) (w : InputWord) (a b c : Nat), stepOn w s = .next t →
    ∃ a' b' c', stepOn w (withCounters a b c s) = .next (withCounters a' b' c' t)

/-! ## The reference encoder -/

/-- R125, an inference the spec marks as its own: escaping adds exactly one byte per escaped byte.
-/
def Obligations.EscapeOverhead : Prop :=
  ∀ (u0 : Byte) (us : List Byte), (escEncode (u0 :: us)).length
    = (u0 :: us).length + (us.filter (fun b => b == 0xFC#8 || b == 0xFD#8)).length

/-- R126, an inference the spec marks as its own: a serialized frame starts with one literal 0xFD,
which is its only MARKER symbol and its only byte 0xFD. -/
def Obligations.SerializedFramesHaveOneMarker : Prop :=
  (∀ f : TokenFields, ∃ us, serializeToken f = 0xFD#8 :: us ∧ 0xFD#8 ∉ us
    ∧ ∃ ds : List Byte, classifyAll false (serializeToken f) = (.marker :: ds.map .data, false))
  ∧ ∀ (k : Bool) (f : CommandFields), f.wellFormed = true →
    ∃ us, serializeCommand k f = 0xFD#8 :: us ∧ 0xFD#8 ∉ us
    ∧ ∃ ds : List Byte, classifyAll false (serializeCommand k f) = (.marker :: ds.map .data, false)

/-- R124, an inference the spec marks as its own: feeding a token's wire form, IDLE steps anywhere
in it, emits exactly that token, at the last byte. -/
def Obligations.TokenRoundTrip : Prop :=
  ∀ (f : TokenFields) (s : State) (ws : List InputWord), BlockInv s → s.st = .sync → s.esc = false →
    FeedOf ws (serializeToken f) →
    ∃ t, feed ws s = .next t
      ∧ events ws s = List.replicate (ws.length - 1) 0#3 ++ [1#3]
      ∧ t.frmKind = 0#1 ∧ t.frmDest = f.dest ∧ t.frmBcast = f.bcast ∧ t.frmSrc = f.src
      ∧ t.frmSeq = f.seq ∧ t.frmCmd = 0#4 ∧ t.frmLen = 0#4
      ∧ t.frmPayload = List.replicate 15 0x00#8
      ∧ t.st = .sync ∧ t.n = 0 ∧ t.esc = false

/-- R124, an inference the spec marks as its own: feeding a command frame's wire form, IDLE steps
anywhere in it, emits exactly that frame, at the last byte, given room for it in the buffer. -/
def Obligations.CommandRoundTrip : Prop :=
  ∀ (f : CommandFields) (s : State) (ws : List InputWord), BlockInv s → s.st = .sync → s.esc = false →
    f.wellFormed = true → 6 + f.payload.length ≤ s.params.rxBufBytes →
    FeedOf ws (serializeCommand s.params.crcCoversMarker f) →
    ∃ t, feed ws s = .next t
      ∧ events ws s = List.replicate (ws.length - 1) 0#3 ++ [2#3]
      ∧ t.frmKind = 1#1 ∧ t.frmDest = f.dest ∧ t.frmBcast = f.bcast ∧ t.frmSrc = f.src
      ∧ t.frmSeq = f.seq ∧ t.frmCmd = f.cmd ∧ t.frmLen = BitVec.ofNat 4 f.payload.length
      ∧ t.frmPayload = f.payload ++ List.replicate (15 - f.payload.length) 0x00#8
      ∧ t.st = .sync ∧ t.n = 0 ∧ t.esc = false

/-! ## Errors and hazards -/

/-- R129, with R83 and R136, which the spec marks as its own inferences: what the event of a step
says of the reader after it: a frame, emitted or dropped by a CRC error, ends in SYNC with no escape
pending; a timeout and an overflow resynchronize; a restart stands behind the new frame's marker. -/
def Obligations.EventsSayWhereTheReaderStands : Prop :=
  ∀ (s t : State) (w : InputWord), w.getLsbD 10 = false → stepOn w s = .next t →
    (t.evCode = 1#3 ∨ t.evCode = 2#3 ∨ t.evCode = 3#3 ∨ t.evCode = 4#3 →
      t.st = .sync ∧ t.n = 0 ∧ t.esc = false)
    ∧ (t.evCode = 5#3 → t.st = .sync ∧ t.n = 0)
    ∧ (t.evCode = 6#3 → t.st = .hdr ∧ t.n = 1 ∧ t.esc = false
        ∧ s.st ≠ .sync ∧ s.params.midMarker = .restart)

/-- R128, and R130, which the spec marks as its own inference: the block never stops in a state that
satisfies R23, never refuses, and stops elsewhere only as `undefinedState`, the model's choice (log
entry 4). -/
def Obligations.OnlyBrokenStatesStop : Prop :=
  (∀ s : State, CountsAgree s → ∃ t, step s = .next t)
  ∧ (∀ (s : State) (r : Fault), step s = .fault r → r = .undefinedState ∧ ¬CountsAgree s)
  ∧ ∀ (s : State) (r : Refusal), step s ≠ .refused r

/-- R149, an inference the spec marks as its own: after a frame is emitted no other can be for two
more steps, and the fields stay readable in them unless a RESET intervenes. -/
def Obligations.EmittedFrameLastsThreeSteps : Prop :=
  ∀ (s t0 t1 t2 : State) (w0 w1 w2 : InputWord), BlockInv s →
    stepOn w0 s = .next t0 → frameValid t0 = true →
    w1.getLsbD 10 = false → stepOn w1 t0 = .next t1 →
    w2.getLsbD 10 = false → stepOn w2 t1 = .next t2 →
    frameValid t1 = false ∧ frameValid t2 = false ∧ SameFrame t0 t1 ∧ SameFrame t0 t2
end

