-- ==== Sys2Proof/Laws/State.lean ====
section
/-!
SUPPORT. One lemma per field per state update, so that no proof unfolds a record update.
-/

namespace Sys2Proof.Machine

variable (s : State)

/-! ### resync -/

@[simp] theorem resync_params : (resync s).params = s.params := rfl
@[simp] theorem resync_inputs : (resync s).inputs = s.inputs := rfl
@[simp] theorem resync_st : (resync s).st = .sync := rfl
@[simp] theorem resync_esc : (resync s).esc = s.esc := rfl
@[simp] theorem resync_buf : (resync s).buf = s.buf := rfl
@[simp] theorem resync_n : (resync s).n = 0 := rfl
@[simp] theorem resync_cntFrames : (resync s).cntFrames = s.cntFrames := rfl
@[simp] theorem resync_cntIncomplete : (resync s).cntIncomplete = s.cntIncomplete := rfl
@[simp] theorem resync_cntCrcErr : (resync s).cntCrcErr = s.cntCrcErr := rfl
@[simp] theorem resync_evCode : (resync s).evCode = s.evCode := rfl
@[simp] theorem resync_frmKind : (resync s).frmKind = s.frmKind := rfl
@[simp] theorem resync_frmDest : (resync s).frmDest = s.frmDest := rfl
@[simp] theorem resync_frmBcast : (resync s).frmBcast = s.frmBcast := rfl
@[simp] theorem resync_frmSrc : (resync s).frmSrc = s.frmSrc := rfl
@[simp] theorem resync_frmSeq : (resync s).frmSeq = s.frmSeq := rfl
@[simp] theorem resync_frmCmd : (resync s).frmCmd = s.frmCmd := rfl
@[simp] theorem resync_frmLen : (resync s).frmLen = s.frmLen := rfl
@[simp] theorem resync_frmPayload : (resync s).frmPayload = s.frmPayload := rfl

/-! ### start -/

@[simp] theorem start_params : (start s).params = s.params := rfl
@[simp] theorem start_inputs : (start s).inputs = s.inputs := rfl
@[simp] theorem start_st : (start s).st = .hdr := rfl
@[simp] theorem start_esc : (start s).esc = s.esc := rfl
@[simp] theorem start_buf : (start s).buf = s.buf.set 0 Config.MARKER := rfl
@[simp] theorem start_n : (start s).n = 1 := rfl
@[simp] theorem start_cntFrames : (start s).cntFrames = s.cntFrames := rfl
@[simp] theorem start_cntIncomplete : (start s).cntIncomplete = s.cntIncomplete := rfl
@[simp] theorem start_cntCrcErr : (start s).cntCrcErr = s.cntCrcErr := rfl
@[simp] theorem start_evCode : (start s).evCode = s.evCode := rfl
@[simp] theorem start_frmKind : (start s).frmKind = s.frmKind := rfl
@[simp] theorem start_frmDest : (start s).frmDest = s.frmDest := rfl
@[simp] theorem start_frmBcast : (start s).frmBcast = s.frmBcast := rfl
@[simp] theorem start_frmSrc : (start s).frmSrc = s.frmSrc := rfl
@[simp] theorem start_frmSeq : (start s).frmSeq = s.frmSeq := rfl
@[simp] theorem start_frmCmd : (start s).frmCmd = s.frmCmd := rfl
@[simp] theorem start_frmLen : (start s).frmLen = s.frmLen := rfl
@[simp] theorem start_frmPayload : (start s).frmPayload = s.frmPayload := rfl

/-! ### storeByte -/

@[simp] theorem storeByte_params (d : Byte) : (storeByte d s).params = s.params := rfl
@[simp] theorem storeByte_inputs (d : Byte) : (storeByte d s).inputs = s.inputs := rfl
@[simp] theorem storeByte_st (d : Byte) : (storeByte d s).st = s.st := rfl
@[simp] theorem storeByte_esc (d : Byte) : (storeByte d s).esc = s.esc := rfl
@[simp] theorem storeByte_buf (d : Byte) : (storeByte d s).buf = s.buf.set s.n d := rfl
@[simp] theorem storeByte_n (d : Byte) : (storeByte d s).n = s.n + 1 := rfl
@[simp] theorem storeByte_cntFrames (d : Byte) : (storeByte d s).cntFrames = s.cntFrames := rfl
@[simp] theorem storeByte_cntIncomplete (d : Byte) : (storeByte d s).cntIncomplete = s.cntIncomplete :=
  rfl
@[simp] theorem storeByte_cntCrcErr (d : Byte) : (storeByte d s).cntCrcErr = s.cntCrcErr := rfl
@[simp] theorem storeByte_evCode (d : Byte) : (storeByte d s).evCode = s.evCode := rfl
@[simp] theorem storeByte_frmKind (d : Byte) : (storeByte d s).frmKind = s.frmKind := rfl
@[simp] theorem storeByte_frmDest (d : Byte) : (storeByte d s).frmDest = s.frmDest := rfl
@[simp] theorem storeByte_frmBcast (d : Byte) : (storeByte d s).frmBcast = s.frmBcast := rfl
@[simp] theorem storeByte_frmSrc (d : Byte) : (storeByte d s).frmSrc = s.frmSrc := rfl
@[simp] theorem storeByte_frmSeq (d : Byte) : (storeByte d s).frmSeq = s.frmSeq := rfl
@[simp] theorem storeByte_frmCmd (d : Byte) : (storeByte d s).frmCmd = s.frmCmd := rfl
@[simp] theorem storeByte_frmLen (d : Byte) : (storeByte d s).frmLen = s.frmLen := rfl
@[simp] theorem storeByte_frmPayload (d : Byte) : (storeByte d s).frmPayload = s.frmPayload := rfl

/-! ### emit -/

@[simp] theorem emit_params (c : BitVec 3) : (emit c s).params = s.params := rfl
@[simp] theorem emit_inputs (c : BitVec 3) : (emit c s).inputs = s.inputs := rfl
@[simp] theorem emit_st (c : BitVec 3) : (emit c s).st = s.st := rfl
@[simp] theorem emit_esc (c : BitVec 3) : (emit c s).esc = s.esc := rfl
@[simp] theorem emit_buf (c : BitVec 3) : (emit c s).buf = s.buf := rfl
@[simp] theorem emit_n (c : BitVec 3) : (emit c s).n = s.n := rfl
@[simp] theorem emit_cntFrames (c : BitVec 3) : (emit c s).cntFrames = s.cntFrames := rfl
@[simp] theorem emit_cntIncomplete (c : BitVec 3) : (emit c s).cntIncomplete = s.cntIncomplete :=
  rfl
@[simp] theorem emit_cntCrcErr (c : BitVec 3) : (emit c s).cntCrcErr = s.cntCrcErr := rfl
@[simp] theorem emit_evCode (c : BitVec 3) : (emit c s).evCode = c := rfl
@[simp] theorem emit_frmKind (c : BitVec 3) : (emit c s).frmKind = s.frmKind := rfl
@[simp] theorem emit_frmDest (c : BitVec 3) : (emit c s).frmDest = s.frmDest := rfl
@[simp] theorem emit_frmBcast (c : BitVec 3) : (emit c s).frmBcast = s.frmBcast := rfl
@[simp] theorem emit_frmSrc (c : BitVec 3) : (emit c s).frmSrc = s.frmSrc := rfl
@[simp] theorem emit_frmSeq (c : BitVec 3) : (emit c s).frmSeq = s.frmSeq := rfl
@[simp] theorem emit_frmCmd (c : BitVec 3) : (emit c s).frmCmd = s.frmCmd := rfl
@[simp] theorem emit_frmLen (c : BitVec 3) : (emit c s).frmLen = s.frmLen := rfl
@[simp] theorem emit_frmPayload (c : BitVec 3) : (emit c s).frmPayload = s.frmPayload := rfl

/-! ### countFrame -/

@[simp] theorem countFrame_params : (countFrame s).params = s.params := rfl
@[simp] theorem countFrame_inputs : (countFrame s).inputs = s.inputs := rfl
@[simp] theorem countFrame_st : (countFrame s).st = s.st := rfl
@[simp] theorem countFrame_esc : (countFrame s).esc = s.esc := rfl
@[simp] theorem countFrame_buf : (countFrame s).buf = s.buf := rfl
@[simp] theorem countFrame_n : (countFrame s).n = s.n := rfl
@[simp] theorem countFrame_cntFrames : (countFrame s).cntFrames = inc s.params s.cntFrames := rfl
@[simp] theorem countFrame_cntIncomplete : (countFrame s).cntIncomplete = s.cntIncomplete := rfl
@[simp] theorem countFrame_cntCrcErr : (countFrame s).cntCrcErr = s.cntCrcErr := rfl
@[simp] theorem countFrame_evCode : (countFrame s).evCode = s.evCode := rfl
@[simp] theorem countFrame_frmKind : (countFrame s).frmKind = s.frmKind := rfl
@[simp] theorem countFrame_frmDest : (countFrame s).frmDest = s.frmDest := rfl
@[simp] theorem countFrame_frmBcast : (countFrame s).frmBcast = s.frmBcast := rfl
@[simp] theorem countFrame_frmSrc : (countFrame s).frmSrc = s.frmSrc := rfl
@[simp] theorem countFrame_frmSeq : (countFrame s).frmSeq = s.frmSeq := rfl
@[simp] theorem countFrame_frmCmd : (countFrame s).frmCmd = s.frmCmd := rfl
@[simp] theorem countFrame_frmLen : (countFrame s).frmLen = s.frmLen := rfl
@[simp] theorem countFrame_frmPayload : (countFrame s).frmPayload = s.frmPayload := rfl

/-! ### countIncomplete -/

@[simp] theorem countIncomplete_params : (countIncomplete s).params = s.params := rfl
@[simp] theorem countIncomplete_inputs : (countIncomplete s).inputs = s.inputs := rfl
@[simp] theorem countIncomplete_st : (countIncomplete s).st = s.st := rfl
@[simp] theorem countIncomplete_esc : (countIncomplete s).esc = s.esc := rfl
@[simp] theorem countIncomplete_buf : (countIncomplete s).buf = s.buf := rfl
@[simp] theorem countIncomplete_n : (countIncomplete s).n = s.n := rfl
@[simp] theorem countIncomplete_cntFrames : (countIncomplete s).cntFrames = s.cntFrames := rfl
@[simp] theorem countIncomplete_cntIncomplete : (countIncomplete s).cntIncomplete = inc s.params s.cntIncomplete :=
  rfl
@[simp] theorem countIncomplete_cntCrcErr : (countIncomplete s).cntCrcErr = s.cntCrcErr := rfl
@[simp] theorem countIncomplete_evCode : (countIncomplete s).evCode = s.evCode := rfl
@[simp] theorem countIncomplete_frmKind : (countIncomplete s).frmKind = s.frmKind := rfl
@[simp] theorem countIncomplete_frmDest : (countIncomplete s).frmDest = s.frmDest := rfl
@[simp] theorem countIncomplete_frmBcast : (countIncomplete s).frmBcast = s.frmBcast := rfl
@[simp] theorem countIncomplete_frmSrc : (countIncomplete s).frmSrc = s.frmSrc := rfl
@[simp] theorem countIncomplete_frmSeq : (countIncomplete s).frmSeq = s.frmSeq := rfl
@[simp] theorem countIncomplete_frmCmd : (countIncomplete s).frmCmd = s.frmCmd := rfl
@[simp] theorem countIncomplete_frmLen : (countIncomplete s).frmLen = s.frmLen := rfl
@[simp] theorem countIncomplete_frmPayload : (countIncomplete s).frmPayload = s.frmPayload := rfl

/-! ### countCrcErr -/

@[simp] theorem countCrcErr_params : (countCrcErr s).params = s.params := rfl
@[simp] theorem countCrcErr_inputs : (countCrcErr s).inputs = s.inputs := rfl
@[simp] theorem countCrcErr_st : (countCrcErr s).st = s.st := rfl
@[simp] theorem countCrcErr_esc : (countCrcErr s).esc = s.esc := rfl
@[simp] theorem countCrcErr_buf : (countCrcErr s).buf = s.buf := rfl
@[simp] theorem countCrcErr_n : (countCrcErr s).n = s.n := rfl
@[simp] theorem countCrcErr_cntFrames : (countCrcErr s).cntFrames = s.cntFrames := rfl
@[simp] theorem countCrcErr_cntIncomplete : (countCrcErr s).cntIncomplete = s.cntIncomplete := rfl
@[simp] theorem countCrcErr_cntCrcErr : (countCrcErr s).cntCrcErr = inc s.params s.cntCrcErr := rfl
@[simp] theorem countCrcErr_evCode : (countCrcErr s).evCode = s.evCode := rfl
@[simp] theorem countCrcErr_frmKind : (countCrcErr s).frmKind = s.frmKind := rfl
@[simp] theorem countCrcErr_frmDest : (countCrcErr s).frmDest = s.frmDest := rfl
@[simp] theorem countCrcErr_frmBcast : (countCrcErr s).frmBcast = s.frmBcast := rfl
@[simp] theorem countCrcErr_frmSrc : (countCrcErr s).frmSrc = s.frmSrc := rfl
@[simp] theorem countCrcErr_frmSeq : (countCrcErr s).frmSeq = s.frmSeq := rfl
@[simp] theorem countCrcErr_frmCmd : (countCrcErr s).frmCmd = s.frmCmd := rfl
@[simp] theorem countCrcErr_frmLen : (countCrcErr s).frmLen = s.frmLen := rfl
@[simp] theorem countCrcErr_frmPayload : (countCrcErr s).frmPayload = s.frmPayload := rfl

/-! ### beginStep -/

@[simp] theorem beginStep_params : (beginStep s).params = s.params := rfl
@[simp] theorem beginStep_inputs : (beginStep s).inputs = s.inputs.tail := rfl
@[simp] theorem beginStep_st : (beginStep s).st = s.st := rfl
@[simp] theorem beginStep_esc : (beginStep s).esc = s.esc := rfl
@[simp] theorem beginStep_buf : (beginStep s).buf = s.buf := rfl
@[simp] theorem beginStep_n : (beginStep s).n = s.n := rfl
@[simp] theorem beginStep_cntFrames : (beginStep s).cntFrames = s.cntFrames := rfl
@[simp] theorem beginStep_cntIncomplete : (beginStep s).cntIncomplete = s.cntIncomplete := rfl
@[simp] theorem beginStep_cntCrcErr : (beginStep s).cntCrcErr = s.cntCrcErr := rfl
@[simp] theorem beginStep_evCode : (beginStep s).evCode = EV_NONE := rfl
@[simp] theorem beginStep_frmKind : (beginStep s).frmKind = s.frmKind := rfl
@[simp] theorem beginStep_frmDest : (beginStep s).frmDest = s.frmDest := rfl
@[simp] theorem beginStep_frmBcast : (beginStep s).frmBcast = s.frmBcast := rfl
@[simp] theorem beginStep_frmSrc : (beginStep s).frmSrc = s.frmSrc := rfl
@[simp] theorem beginStep_frmSeq : (beginStep s).frmSeq = s.frmSeq := rfl
@[simp] theorem beginStep_frmCmd : (beginStep s).frmCmd = s.frmCmd := rfl
@[simp] theorem beginStep_frmLen : (beginStep s).frmLen = s.frmLen := rfl
@[simp] theorem beginStep_frmPayload : (beginStep s).frmPayload = s.frmPayload := rfl

/-! ### present -/

@[simp] theorem present_params (w : InputWord) : (present w s).params = s.params := rfl
@[simp] theorem present_inputs (w : InputWord) : (present w s).inputs = w :: s.inputs := rfl
@[simp] theorem present_st (w : InputWord) : (present w s).st = s.st := rfl
@[simp] theorem present_esc (w : InputWord) : (present w s).esc = s.esc := rfl
@[simp] theorem present_buf (w : InputWord) : (present w s).buf = s.buf := rfl
@[simp] theorem present_n (w : InputWord) : (present w s).n = s.n := rfl
@[simp] theorem present_cntFrames (w : InputWord) : (present w s).cntFrames = s.cntFrames := rfl
@[simp] theorem present_cntIncomplete (w : InputWord) : (present w s).cntIncomplete = s.cntIncomplete :=
  rfl
@[simp] theorem present_cntCrcErr (w : InputWord) : (present w s).cntCrcErr = s.cntCrcErr := rfl
@[simp] theorem present_evCode (w : InputWord) : (present w s).evCode = s.evCode := rfl
@[simp] theorem present_frmKind (w : InputWord) : (present w s).frmKind = s.frmKind := rfl
@[simp] theorem present_frmDest (w : InputWord) : (present w s).frmDest = s.frmDest := rfl
@[simp] theorem present_frmBcast (w : InputWord) : (present w s).frmBcast = s.frmBcast := rfl
@[simp] theorem present_frmSrc (w : InputWord) : (present w s).frmSrc = s.frmSrc := rfl
@[simp] theorem present_frmSeq (w : InputWord) : (present w s).frmSeq = s.frmSeq := rfl
@[simp] theorem present_frmCmd (w : InputWord) : (present w s).frmCmd = s.frmCmd := rfl
@[simp] theorem present_frmLen (w : InputWord) : (present w s).frmLen = s.frmLen := rfl
@[simp] theorem present_frmPayload (w : InputWord) : (present w s).frmPayload = s.frmPayload := rfl

/-! ### emitToken -/

@[simp] theorem emitToken_params : (emitToken s).params = s.params := rfl
@[simp] theorem emitToken_inputs : (emitToken s).inputs = s.inputs := rfl
@[simp] theorem emitToken_st : (emitToken s).st = s.st := rfl
@[simp] theorem emitToken_esc : (emitToken s).esc = s.esc := rfl
@[simp] theorem emitToken_buf : (emitToken s).buf = s.buf := rfl
@[simp] theorem emitToken_n : (emitToken s).n = s.n := rfl
@[simp] theorem emitToken_cntFrames : (emitToken s).cntFrames = inc s.params s.cntFrames := rfl
@[simp] theorem emitToken_cntIncomplete : (emitToken s).cntIncomplete = s.cntIncomplete := rfl
@[simp] theorem emitToken_cntCrcErr : (emitToken s).cntCrcErr = s.cntCrcErr := rfl
@[simp] theorem emitToken_evCode : (emitToken s).evCode = EV_TOKEN := rfl
@[simp] theorem emitToken_frmKind : (emitToken s).frmKind = 0#1 := rfl
@[simp] theorem emitToken_frmDest : (emitToken s).frmDest = destField (bufAt s 1) := rfl
@[simp] theorem emitToken_frmBcast : (emitToken s).frmBcast = bcastField (bufAt s 1) := rfl
@[simp] theorem emitToken_frmSrc : (emitToken s).frmSrc = srcField (bufAt s 2) := rfl
@[simp] theorem emitToken_frmSeq : (emitToken s).frmSeq = seqField (bufAt s 2) := rfl
@[simp] theorem emitToken_frmCmd : (emitToken s).frmCmd = 0#4 := rfl
@[simp] theorem emitToken_frmLen : (emitToken s).frmLen = 0#4 := rfl
@[simp] theorem emitToken_frmPayload : (emitToken s).frmPayload = List.replicate 15 0x00#8 := rfl

/-! ### emitCommand -/

@[simp] theorem emitCommand_params : (emitCommand s).params = s.params := rfl
@[simp] theorem emitCommand_inputs : (emitCommand s).inputs = s.inputs := rfl
@[simp] theorem emitCommand_st : (emitCommand s).st = s.st := rfl
@[simp] theorem emitCommand_esc : (emitCommand s).esc = s.esc := rfl
@[simp] theorem emitCommand_buf : (emitCommand s).buf = s.buf := rfl
@[simp] theorem emitCommand_n : (emitCommand s).n = s.n := rfl
@[simp] theorem emitCommand_cntFrames : (emitCommand s).cntFrames = inc s.params s.cntFrames := rfl
@[simp] theorem emitCommand_cntIncomplete : (emitCommand s).cntIncomplete = s.cntIncomplete := rfl
@[simp] theorem emitCommand_cntCrcErr : (emitCommand s).cntCrcErr = s.cntCrcErr := rfl
@[simp] theorem emitCommand_evCode : (emitCommand s).evCode = EV_COMMAND := rfl
@[simp] theorem emitCommand_frmKind : (emitCommand s).frmKind = 1#1 := rfl
@[simp] theorem emitCommand_frmDest : (emitCommand s).frmDest = destField (bufAt s 1) := rfl
@[simp] theorem emitCommand_frmBcast : (emitCommand s).frmBcast = bcastField (bufAt s 1) := rfl
@[simp] theorem emitCommand_frmSrc : (emitCommand s).frmSrc = srcField (bufAt s 2) := rfl
@[simp] theorem emitCommand_frmSeq : (emitCommand s).frmSeq = seqField (bufAt s 2) := rfl
@[simp] theorem emitCommand_frmCmd : (emitCommand s).frmCmd = cmdField (bufAt s 3) := rfl
@[simp] theorem emitCommand_frmLen : (emitCommand s).frmLen = lenField (bufAt s 3) := rfl
@[simp] theorem emitCommand_frmPayload : (emitCommand s).frmPayload = payloadBytes s := rfl

end Sys2Proof.Machine
end

