-- ==== Sys2Proof/Laws/Ops.lean ====
section
/-!
SUPPORT. What each shared operation can do, said once: row selection, storing, errors, the two
symbol dispatches, the byte dispatch and the step. Provers cite these instead of unfolding.
-/

namespace Sys2Proof.Machine

/-! ### Row selection -/

@[simp] theorem whenSelected_of {c : Prop} [Decidable c] {t : State} (h : c) :
    whenSelected c t = .next t := if_pos h

@[simp] theorem whenSelected_of_not {c : Prop} [Decidable c] {t : State} (h : ¬c) :
    whenSelected c t = .fault .rowNotSelected := if_neg h

/-- A row that answers next was selected, and the next state is its effect. -/
theorem whenSelected_next {c : Prop} [Decidable c] {t u : State} (h : whenSelected c t = .next u) :
    c ∧ u = t := by
  unfold whenSelected at h
  split at h
  · exact ⟨‹c›, by cases h; rfl⟩
  · cases h

/-! ### The buffer -/

theorem bufAt_storeByte_self {d : Byte} {s : State} (h : s.n < s.buf.length) :
    bufAt (storeByte d s) s.n = d := by
  simp [bufAt, h]

theorem bufAt_storeByte_ne {d : Byte} {s : State} {i : Nat} (h : i ≠ s.n) :
    bufAt (storeByte d s) i = bufAt s i := by
  simp [bufAt, List.getD, h.symm]

@[simp] theorem length_buf_storeByte (d : Byte) (s : State) :
    (storeByte d s).buf.length = s.buf.length := by
  simp

@[simp] theorem length_buf_start (s : State) : (start s).buf.length = s.buf.length := by
  simp

theorem bufAt_start_zero {s : State} (h : 0 < s.buf.length) : bufAt (start s) 0 = Config.MARKER := by
  simp [bufAt, h]

theorem bufAt_congr {s t : State} (h : t.buf = s.buf) (i : Nat) : bufAt t i = bufAt s i := by
  simp [bufAt, h]

theorem payloadLen_congr {s t : State} (h : t.buf = s.buf) : payloadLen t = payloadLen s := by
  simp [payloadLen, bufAt_congr h]

theorem typeBit_congr {s t : State} (h : t.buf = s.buf) : typeBit t = typeBit s := by
  simp [typeBit, bufAt_congr h]

theorem payloadLen_le (s : State) : payloadLen s ≤ 15 := by
  have := (lenField (bufAt s 3)).isLt
  unfold payloadLen
  omega

/-- `L` after a store: the stored byte gives it at index 3, any other store leaves it (R95). -/
theorem payloadLen_storeByte {d : Byte} {s : State} (h : s.n < s.buf.length) :
    payloadLen (storeByte d s) = if s.n = 3 then (lenField d).toNat else payloadLen s := by
  split
  · next h3 =>
    have := bufAt_storeByte_self (d := d) h
    rw [h3] at this
    simp [payloadLen, this]
  · next h3 => simp [payloadLen, bufAt_storeByte_ne (Ne.symm h3)]

/-- The type bit is read from index 1, so a later store leaves it. -/
theorem typeBit_storeByte {d : Byte} {s : State} (h : s.n ≠ 1) :
    typeBit (storeByte d s) = typeBit s := by
  simp [typeBit, bufAt_storeByte_ne h.symm]

theorem typeBit_eq_one_of_ne_zero {s : State} (h : typeBit s ≠ 0#1) : typeBit s = 1#1 := by
  revert h
  generalize typeBit s = b
  revert b
  decide

/-! ### Errors -/

@[simp] theorem takeError_crcError (s : State) :
    takeError .crcError s = resync (emit EV_CRC_ERROR (countCrcErr s)) := rfl

@[simp] theorem takeError_incomplete (s : State) :
    takeError .incomplete s
      = { resync (emit EV_INCOMPLETE (countIncomplete s)) with esc := false } := rfl

@[simp] theorem takeError_overflow (s : State) :
    takeError .overflow s = resync (emit EV_OVERFLOW s) := rfl

@[simp] theorem takeError_restart (s : State) :
    takeError .restart s = start (emit EV_RESTART s) := rfl

@[simp] theorem reportError_crcError (s : State) :
    reportError .crcError s = emit EV_CRC_ERROR (countCrcErr s) := rfl

/-! ### Symbols -/

/-- Everything a DATA symbol can do when it answers next (R87, R90-R98): discard in SYNC, overflow, or
store and then the row of the state and the new count. -/
theorem symData_next {d : Byte} {s t : State} (h : symData d s = .next t) :
    (s.st = .sync ∧ t = s)
    ∨ (s.st ≠ .sync ∧ BufFull s ∧ t = takeError .overflow s)
    ∨ (s.st = .hdr ∧ BufRoom s ∧ s.n = 1 ∧ t = storeByte d s)
    ∨ (s.st = .hdr ∧ BufRoom s ∧ s.n = 2 ∧ typeBit s = 0#1 ∧ t = resync (emitToken (storeByte d s)))
    ∨ (s.st = .hdr ∧ BufRoom s ∧ s.n = 2 ∧ typeBit s = 1#1
        ∧ t = { storeByte d s with st := .pkt })
    ∨ (s.st = .pkt ∧ BufRoom s ∧ s.n + 1 < 4 + payloadLen (storeByte d s) ∧ t = storeByte d s)
    ∨ (s.st = .pkt ∧ BufRoom s ∧ s.n + 1 = 4 + payloadLen (storeByte d s)
        ∧ t = { storeByte d s with st := .crc })
    ∨ (s.st = .crc ∧ BufRoom s ∧ s.n + 1 = 5 + payloadLen (storeByte d s) ∧ t = storeByte d s)
    ∨ (s.st = .crc ∧ BufRoom s ∧ s.n + 1 = 6 + payloadLen (storeByte d s)
        ∧ t = resync (checkCrc (storeByte d s))) := by
  unfold symData at h
  split at h <;> rename_i hst
  · obtain ⟨-, rfl⟩ := whenSelected_next h
    exact .inl ⟨‹_ = Fsm.sync›, rfl⟩
  · unfold hdrData at h
    split_ifs at h with hf hr h1 h2 h3
    · obtain ⟨-, rfl⟩ := whenSelected_next h
      exact .inr (.inl ⟨by simp [hst], hf, rfl⟩)
    · obtain ⟨-, rfl⟩ := whenSelected_next h
      exact .inr (.inr (.inl ⟨hst, hr, by omega, rfl⟩))
    · obtain ⟨-, rfl⟩ := whenSelected_next h
      rw [typeBit_storeByte (by omega)] at h3
      exact .inr (.inr (.inr (.inl ⟨hst, hr, by omega, h3, rfl⟩)))
    · obtain ⟨-, rfl⟩ := whenSelected_next h
      rw [typeBit_storeByte (by omega)] at h3
      exact .inr (.inr (.inr (.inr (.inl
        ⟨hst, hr, by omega, typeBit_eq_one_of_ne_zero h3, rfl⟩))))
  · unfold pktData at h
    split_ifs at h with hf hr h1 h2
    · obtain ⟨-, rfl⟩ := whenSelected_next h
      exact .inr (.inl ⟨by simp [hst], hf, rfl⟩)
    · obtain ⟨-, rfl⟩ := whenSelected_next h
      exact .inr (.inr (.inr (.inr (.inr (.inl ⟨hst, hr, h1, rfl⟩)))))
    · obtain ⟨-, rfl⟩ := whenSelected_next h
      exact .inr (.inr (.inr (.inr (.inr (.inr (.inl ⟨hst, hr, h2, rfl⟩))))))
  · unfold crcData at h
    split_ifs at h with hf hr h1 h2
    · obtain ⟨-, rfl⟩ := whenSelected_next h
      exact .inr (.inl ⟨by simp [hst], hf, rfl⟩)
    · obtain ⟨-, rfl⟩ := whenSelected_next h
      exact .inr (.inr (.inr (.inr (.inr (.inr (.inr (.inl ⟨hst, hr, h1, rfl⟩)))))))
    · obtain ⟨-, rfl⟩ := whenSelected_next h
      exact .inr (.inr (.inr (.inr (.inr (.inr (.inr (.inr ⟨hst, hr, h2, rfl⟩)))))))

/-- Everything a MARKER symbol can do when it answers next (R86, R88, R89). -/
theorem symMarker_next {s t : State} (h : symMarker s = .next t) :
    (s.st = .sync ∧ t = start s)
    ∨ (s.st ≠ .sync ∧ s.params.midMarker = .restart ∧ t = takeError .restart s)
    ∨ (s.st ≠ .sync ∧ s.params.midMarker = .data ∧ symData Config.MARKER s = .next t) := by
  unfold symMarker at h
  split at h <;> rename_i hst hp
  · obtain ⟨-, rfl⟩ := whenSelected_next h
    exact .inl ⟨‹_ = Fsm.sync›, rfl⟩
  · obtain ⟨-, rfl⟩ := whenSelected_next h
    exact .inr (.inl ⟨by simp [hst], hp, rfl⟩)
  · exact .inr (.inr ⟨by simp [hst], hp, by simpa [execHdrMarkerData, hst, hp] using h⟩)
  · obtain ⟨-, rfl⟩ := whenSelected_next h
    exact .inr (.inl ⟨by simp [hst], hp, rfl⟩)
  · exact .inr (.inr ⟨by simp [hst], hp, by simpa [execPktMarkerData, hst, hp] using h⟩)
  · obtain ⟨-, rfl⟩ := whenSelected_next h
    exact .inr (.inl ⟨by simp [hst], hp, rfl⟩)
  · exact .inr (.inr ⟨by simp [hst], hp, by simpa [execCrcMarkerData, hst, hp] using h⟩)

/-- Everything a BYTE can do when it answers next (R77-R81). -/
theorem execByte_next {b : Byte} {s t : State} (h : execByte b s = .next t) :
    (s.esc = true ∧ symData (b ||| Config.ESC_BIT) { s with esc := false } = .next t)
    ∨ (s.esc = false ∧ b = Config.ESCAPE ∧ t = { s with esc := true })
    ∨ (s.esc = false ∧ b = Config.MARKER ∧ symMarker s = .next t)
    ∨ (s.esc = false ∧ b ≠ Config.ESCAPE ∧ b ≠ Config.MARKER ∧ symData b s = .next t) := by
  unfold execByte at h
  split_ifs at h with he h1 h2
  · exact .inl ⟨he, by simpa [execDataEscaped, he] using h⟩
  · obtain ⟨-, rfl⟩ := whenSelected_next h
    exact .inr (.inl ⟨by simpa using he, h1, rfl⟩)
  · have he' : s.esc = false := by simpa using he
    exact .inr (.inr (.inl ⟨he', h2, by simpa [execMarker, he'] using h⟩))
  · have he' : s.esc = false := by simpa using he
    exact .inr (.inr (.inr ⟨he', h1, h2, by simpa [execDataPlain, he', h1, h2] using h⟩))

/-! ### The step -/

/-- `Step(S, I)` (R14): the input word given decides the operation, and leaves the list as it was. -/
theorem stepOn_eq (w : InputWord) (s : State) :
    stepOn w s = exec (decodeInput s.st w) { s with evCode := EV_NONE } := rfl

/-- A step on the head of the list is `stepOn` of that word over the rest. -/
theorem step_cons {w : InputWord} {ws : List InputWord} {s : State} (h : s.inputs = w :: ws) :
    step s = stepOn w { s with inputs := ws } := by
  cases s
  cases h
  rfl

/-- With no word presented a step samples 0x000, which is IDLE (log entry 2). -/
theorem step_nil {s : State} (h : s.inputs = []) : step s = stepOn 0x000#11 s := by
  cases s
  cases h
  rfl

/-- The four kinds of input word (R54), by their bits. -/
theorem decodeInput_cases (st : Fsm) (w : InputWord) :
    decodeInput st w = .reset
    ∨ decodeInput st w = .byte (w.extractLsb' 0 8)
    ∨ (st ≠ .sync ∧ decodeInput st w = .timeoutMidframe)
    ∨ (st = .sync ∧ decodeInput st w = .timeoutSync)
    ∨ decodeInput st w = .idle := by
  unfold decodeInput
  split_ifs <;> simp_all

/-! ### Feeds -/

@[simp] theorem feed_nil (s : State) : feed [] s = .next s := rfl

@[simp] theorem events_nil (s : State) : events [] s = [] := rfl

theorem feed_cons_of {w : InputWord} {s t : State} (h : stepOn w s = .next t)
    (ws : List InputWord) : feed (w :: ws) s = feed ws t := by
  simp [feed, h]

theorem events_cons_of {w : InputWord} {s t : State} (h : stepOn w s = .next t)
    (ws : List InputWord) : events (w :: ws) s = t.evCode :: events ws t := by
  simp [events, h]

theorem feed_append_of {ws : List InputWord} {s t : State} (h : feed ws s = .next t)
    (vs : List InputWord) : feed (ws ++ vs) s = feed vs t := by
  induction ws generalizing s with
  | nil => cases h; rfl
  | cons w ws ih =>
    unfold feed at h
    split at h
    · rename_i u hu
      rw [List.cons_append, feed_cons_of hu]
      exact ih h
    · cases h
    · cases h

theorem events_append_of {ws : List InputWord} {s t : State} (h : feed ws s = .next t)
    (vs : List InputWord) : events (ws ++ vs) s = events ws s ++ events vs t := by
  induction ws generalizing s with
  | nil => cases h; rfl
  | cons w ws ih =>
    unfold feed at h
    split at h
    · rename_i u hu
      rw [List.cons_append, events_cons_of hu, events_cons_of hu, ih h]
      rfl
    · cases h
    · cases h

/-! ### The CRC -/

@[simp] theorem crc16_nil : crc16 [] = Config.CRC_INIT := rfl

theorem crc16_append (u v : List Byte) : crc16 (u ++ v) = v.foldl crcUpdate (crc16 u) := by
  simp [crc16]

/-- The CRC of two more bytes takes two updates (R102). -/
theorem crc16_append_two (u : List Byte) (x y : Byte) :
    crc16 (u ++ [x, y]) = crcUpdate (crcUpdate (crc16 u) x) y := by
  simp [crc16_append]

end Sys2Proof.Machine
end

