-- ==== Sys2Proof/Laws/PerInstr.lean ====
section
/-!
SUPPORT. The per-instruction family `EncodingFits`: the word of an instruction has no bit outside its
format (spec/30_encoding.md R53, R56, R57, R59, R104). One lemma per constructor.
-/

namespace Sys2Proof.Laws.EncodingFits

/-- The bits of `encode i` outside the word of its format are zero. -/
def Statement (i : Instr) : Prop :=
  encode i &&& ~~~i.format.bits = 0#16

theorem reset : Statement .reset := by unfold Statement; decide

theorem byte (b : Byte) : Statement (.byte b) := by
  revert b; unfold Statement; decide

theorem timeoutMidframe : Statement .timeoutMidframe := by unfold Statement; decide

theorem timeoutSync : Statement .timeoutSync := by unfold Statement; decide

theorem idle : Statement .idle := by unfold Statement; decide

theorem dataEscaped (b : Byte) : Statement (.dataEscaped b) := by
  revert b; unfold Statement; decide

theorem escPrefix : Statement .escPrefix := by unfold Statement; decide

theorem marker : Statement .marker := by unfold Statement; decide

theorem dataPlain (b : Byte) : Statement (.dataPlain b) := by
  revert b; unfold Statement; decide

theorem syncMarker : Statement .syncMarker := by unfold Statement; decide

theorem syncData (d : Byte) : Statement (.syncData d) := by
  revert d; unfold Statement; decide

theorem hdrMarkerRestart : Statement .hdrMarkerRestart := by unfold Statement; decide

theorem hdrMarkerData : Statement .hdrMarkerData := by unfold Statement; decide

theorem pktMarkerRestart : Statement .pktMarkerRestart := by unfold Statement; decide

theorem pktMarkerData : Statement .pktMarkerData := by unfold Statement; decide

theorem crcMarkerRestart : Statement .crcMarkerRestart := by unfold Statement; decide

theorem crcMarkerData : Statement .crcMarkerData := by unfold Statement; decide

theorem hdrDataOverflow (d : Byte) : Statement (.hdrDataOverflow d) := by
  revert d; unfold Statement; decide

theorem pktDataOverflow (d : Byte) : Statement (.pktDataOverflow d) := by
  revert d; unfold Statement; decide

theorem crcDataOverflow (d : Byte) : Statement (.crcDataOverflow d) := by
  revert d; unfold Statement; decide

theorem hdrDataHdr0 (d : Byte) : Statement (.hdrDataHdr0 d) := by
  revert d; unfold Statement; decide

theorem hdrDataToken (d : Byte) : Statement (.hdrDataToken d) := by
  revert d; unfold Statement; decide

theorem hdrDataCommand (d : Byte) : Statement (.hdrDataCommand d) := by
  revert d; unfold Statement; decide

theorem pktDataMore (d : Byte) : Statement (.pktDataMore d) := by
  revert d; unfold Statement; decide

theorem pktDataLast (d : Byte) : Statement (.pktDataLast d) := by
  revert d; unfold Statement; decide

theorem crcDataLow (d : Byte) : Statement (.crcDataLow d) := by
  revert d; unfold Statement; decide

theorem crcDataHigh (d : Byte) : Statement (.crcDataHigh d) := by
  revert d; unfold Statement; decide

theorem token : Statement .token := by unfold Statement; decide

theorem command : Statement .command := by unfold Statement; decide

theorem crcPass : Statement .crcPass := by unfold Statement; decide

theorem crcError : Statement .crcError := by unfold Statement; decide

end Sys2Proof.Laws.EncodingFits
end

