-- ==== Sys2Proof/Tests/Slice0.lean ====
section
/-!
SUPPORT. Tests. Expected values are the spec's: its encodings (30_encoding.md) and its vectors
(95_test_vectors.md, named at each test). Then the witnesses: for each statement with hypotheses, a
concrete case that meets them all.
-/

namespace Sys2Proof.Tests

open Sys2Proof Sys2Proof.Machine

set_option maxRecDepth 20000

/-! ## Well-formedness: what the checks refuse -/

theorem test_wf_plain_escape : (Instr.dataPlain 0xFC#8).wellFormed = false := by decide
theorem test_wf_plain_marker : (Instr.dataPlain 0xFD#8).wellFormed = false := by decide
theorem test_wf_plain_other : (Instr.dataPlain 0x7D#8).wellFormed = true := by decide
theorem test_wf_payload_16 :
    ({ dest := 0, bcast := 0, src := 0, seq := 0, cmd := 0,
       payload := List.replicate 16 0x00#8 } : CommandFields).wellFormed = false := by decide
theorem test_params_wf_min : ({ Params.default with rxBufBytes := 3, cntW := 1 }).Wf := by decide
theorem test_params_wf_small_buffer : ¬({ Params.default with rxBufBytes := 2 }).Wf := by decide
theorem test_params_wf_no_counter : ¬({ Params.default with cntW := 0 }).Wf := by decide

/-! ## Decoding: each row's word, written out from its encoding -/

/-- What a word of format `f` decodes to, in a reader that stands in `st` with count `n`. -/
def read (f : Format) (st : Fsm) (n : Nat) (w : InstrWord) : Option Instr :=
  (decode f { tableCond st with n := n } w).toOption

/-- R54, L2-I2, L2-I10, L2-I11, L2-I12. -/
theorem test_decode_input_words :
    read .inputWord .sync 0 0b10000000000#16 = some .reset
    ∧ read .inputWord .hdr 1 0b11111111111#16 = some .reset
    ∧ read .inputWord .sync 0 0b00111111101#16 = some (.byte 0xFD#8)
    ∧ read .inputWord .hdr 1 0b01100000000#16 = some (.byte 0x00#8)
    ∧ read .inputWord .hdr 1 0b01000000000#16 = some .timeoutMidframe
    ∧ read .inputWord .sync 0 0b01011111101#16 = some .timeoutSync
    ∧ read .inputWord .sync 0 0b00011111101#16 = some .idle := by decide

/-- R56. -/
theorem test_decode_wire_words :
    read .wireSymbol .sync 0 0b101111101#16 = some (.dataEscaped 0x7D#8)
    ∧ read .wireSymbol .sync 0 0b111111101#16 = some (.dataEscaped 0xFD#8)
    ∧ read .wireSymbol .sync 0 0b011111100#16 = some .escPrefix
    ∧ read .wireSymbol .sync 0 0b011111101#16 = some .marker
    ∧ read .wireSymbol .sync 0 0b001000001#16 = some (.dataPlain 0x41#8) := by decide

/-- R57: FS in bits 2..0, the DATA byte in bits 15..8. -/
theorem test_decode_sync_and_marker_words :
    read .fsmSelect .sync 0 0b001#16 = some .syncMarker
    ∧ read .fsmSelect .sync 0 0x1200#16 = some (.syncData 0x12#8)
    ∧ read .fsmSelect .hdr 1 0b011#16 = some .hdrMarkerRestart
    ∧ read .fsmSelect .pkt 3 0b101#16 = some .pktMarkerRestart
    ∧ read .fsmSelect .crc 4 0b111#16 = some .crcMarkerRestart := by decide

/-- R57, R89: the same words under `P_MID_MARKER = DATA`. -/
theorem test_decode_marker_words_under_data :
    [0b011#16, 0b101#16, 0b111#16].map
      (fun w => (decode .fsmSelect { tableCond .hdr with midMarker := .data } w).toOption)
    = [some .hdrMarkerData, some .pktMarkerData, some .crcMarkerData] := by decide

/-- R57, R91-R94; hdr0 is 0x42 (a token's, L2-D6) or 0x01 (a command's). -/
theorem test_decode_hdr_data_words :
    read .fsmSelect .hdr 21 0x0502#16 = some (.hdrDataOverflow 0x05#8)
    ∧ read .fsmSelect .hdr 1 0x0502#16 = some (.hdrDataHdr0 0x05#8)
    ∧ (decode .fsmSelect { tableCond .hdr with n := 2, hdr0 := 0x42#8 } 0x8902#16).toOption
        = some (.hdrDataToken 0x89#8)
    ∧ read .fsmSelect .hdr 2 0x0302#16 = some (.hdrDataCommand 0x03#8)
    ∧ read .fsmSelect .hdr 7 0x0302#16 = none := by decide

/-- R57, R91, R95, R96: a cmdlen byte 0x14 has L = 4, 0x10 has L = 0 (L2-S5, L2-S6). -/
theorem test_decode_pkt_data_words :
    read .fsmSelect .pkt 21 0xBB04#16 = some (.pktDataOverflow 0xBB#8)
    ∧ read .fsmSelect .pkt 3 0x1404#16 = some (.pktDataMore 0x14#8)
    ∧ read .fsmSelect .pkt 3 0x1004#16 = some (.pktDataLast 0x10#8)
    ∧ read .fsmSelect .pkt 9 0xBB04#16 = none := by decide

/-- R57, R91, R97, R98, with L = 0. -/
theorem test_decode_crc_data_words :
    read .fsmSelect .crc 21 0xAA06#16 = some (.crcDataOverflow 0xAA#8)
    ∧ read .fsmSelect .crc 4 0xAA06#16 = some (.crcDataLow 0xAA#8)
    ∧ read .fsmSelect .crc 5 0xAA06#16 = some (.crcDataHigh 0xAA#8) := by decide

/-- R64, R104. -/
theorem test_decode_frame_and_check_words :
    read .frameHdr0 .hdr 3 0x42#16 = some .token
    ∧ read .frameHdr0 .hdr 3 0x43#16 = some .command
    ∧ read .crcCheck .crc 6 0x0000#16 = some .crcPass
    ∧ read .crcCheck .crc 6 0x1189#16 = some .crcError := by decide

theorem test_decode_refuses_stray_bits :
    read .inputWord .sync 0 0x0800#16 = none ∧ read .wireSymbol .sync 0 0x0200#16 = none
    ∧ read .fsmSelect .sync 0 0x0008#16 = none ∧ read .fsmSelect .sync 0 0xFD01#16 = none
    ∧ read .frameHdr0 .hdr 3 0x0100#16 = none := by decide

theorem test_table_words :
    decodeTableWord 16 0x400 = some .reset ∧ decodeTableWord 16 0x1FD = some (.byte 0xFD#8)
    ∧ decodeTableWord 16 0x200 = some .timeoutSync ∧ decodeTableWord 16 0x000 = some .idle
    ∧ decodeTableWord 8 0x1 = some .syncMarker ∧ decodeTableWord 8 0x0 = some (.syncData 0x00#8)
    ∧ decodeTableWord 8 0x5 = some .pktMarkerRestart
    ∧ decodeTableWord 8 0x4 = some (.pktDataLast 0x00#8)
    ∧ decodeTableWord 8 0x6 = some (.crcDataLow 0x00#8) := by decide

/-! ## States the tests start from -/

/-- A reader in `st` with the bytes `bs` accumulated, everything else as after reset. -/
def reader (st : Fsm) (bs : List Byte) : State :=
  { State.reset with
    st := st, n := bs.length, buf := bs ++ List.replicate (21 - bs.length) 0x00#8 }

def hdr1 : State := reader .hdr [0xFD#8]
def hdrToken : State := reader .hdr [0xFD#8, 0x42#8]
def hdrCommand : State := reader .hdr [0xFD#8, 0x01#8]
def pkt3 : State := reader .pkt [0xFD#8, 0x01#8, 0x03#8]
def pkt5 : State := reader .pkt [0xFD#8, 0x01#8, 0x03#8, 0x14#8, 0xBB#8]
/-- The frame of L1-3 without its last payload byte. -/
def pkt7 : State := reader .pkt [0xFD#8, 0x01#8, 0x03#8, 0x14#8, 0xBB#8, 0x01#8, 0x00#8]
/-- The frame of L1-3 without its CRC. -/
def crc8 : State := reader .crc [0xFD#8, 0x01#8, 0x03#8, 0x14#8, 0xBB#8, 0x01#8, 0x00#8, 0x00#8]
/-- The frame of L1-3 without its last byte. -/
def crc9 : State :=
  reader .crc [0xFD#8, 0x01#8, 0x03#8, 0x14#8, 0xBB#8, 0x01#8, 0x00#8, 0x00#8, 0xEB#8]
/-- Inside the step that ends the frame of L1-3: its last byte is stored. -/
def crcEnd (high : Byte) : State :=
  reader .crc [0xFD#8, 0x01#8, 0x03#8, 0x14#8, 0xBB#8, 0x01#8, 0x00#8, 0x00#8, 0xEB#8, high]
/-- Inside the step that ends the token of L2-D6. -/
def tokenEnd : State := reader .hdr [0xFD#8, 0x42#8, 0x89#8]

def escaped (s : State) : State := { s with esc := true }
def underData (s : State) : State := { s with params := { s.params with midMarker := .data } }
/-- The same reader with a buffer of exactly its accumulated bytes. -/
def full (s : State) : State :=
  { s with params := { s.params with rxBufBytes := s.n }, buf := s.buf.take s.n }

/-- The state register, count, escape flag and event code after a meaning or a step. -/
def after (r : Result) : Option (Fsm × Nat × Bool × BitVec 3) :=
  (nextOf r).map fun t => (t.st, t.n, t.esc, t.evCode)

/-! ## One step or one row at a time -/

/-- L2-I1. -/
theorem test_reset : stepOn 0x400#11 hdrCommand = .next State.reset := by rfl
/-- L2-I2. -/
theorem test_reset_wins : stepOn 0x7FF#11 hdr1 = .next State.reset := by rfl
/-- L2-I10. -/
theorem test_byte_wins_over_timeout :
    after (stepOn 0x300#11 hdr1) = some (.hdr, 2, false, EV_NONE) := by decide
/-- L3-P1 step 2. -/
theorem test_byte_marker : after (stepOn 0x1FD#11 State.reset) = some (.hdr, 1, false, EV_NONE) := by
  decide
/-- L2-I4. -/
theorem test_timeout_midframe :
    (nextOf (stepOn 0x200#11 pkt3)).map (fun t => (t.st, t.n, t.evCode, t.cntIncomplete))
      = some (.sync, 0, EV_INCOMPLETE, 1) := by decide
/-- L2-I6. -/
theorem test_timeout_midframe_clears_escape :
    after (exec .timeoutMidframe (escaped hdrCommand)) = some (.sync, 0, false, EV_INCOMPLETE) := by
  decide
/-- L2-I9. -/
theorem test_timeout_sync : stepOn 0x200#11 (escaped State.reset) = .next State.reset := by rfl
/-- L2-I12. -/
theorem test_idle : stepOn 0x0FD#11 State.reset = .next State.reset := by rfl
/-- R72: the prologue clears the event of the step before. -/
theorem test_idle_clears_event :
    stepOn 0x000#11 { State.reset with evCode := EV_TOKEN } = .next State.reset := by rfl
/-- L2-W11. -/
theorem test_data_escaped :
    (nextOf (exec (.dataEscaped 0x7C#8) (escaped hdr1))).map (fun t => (bufAt t 1, t.n, t.esc))
      = some (0xFC#8, 2, false) := by decide
/-- L2-W3. -/
theorem test_data_escaped_sync :
    exec (.dataEscaped 0xFD#8) (escaped State.reset) = .next State.reset := by rfl
/-- L2-W1. -/
theorem test_esc_prefix : exec .escPrefix State.reset = .next (escaped State.reset) := by rfl
theorem test_marker : after (exec .marker State.reset) = some (.hdr, 1, false, EV_NONE) := by decide
/-- L2-W9. -/
theorem test_data_plain :
    (nextOf (exec (.dataPlain 0x7D#8) hdr1)).map (fun t => (bufAt t 1, t.n)) = some (0x7D#8, 2) := by
  decide
/-- L2-S2. -/
theorem test_sync_marker : exec .syncMarker State.reset = .next hdr1 := by rfl
/-- L2-S1. -/
theorem test_sync_data : exec (.syncData 0x12#8) State.reset = .next State.reset := by rfl
/-- L2-S15. -/
theorem test_hdr_marker_restart :
    after (exec .hdrMarkerRestart hdrCommand) = some (.hdr, 1, false, EV_RESTART) := by decide
/-- L2-S8. -/
theorem test_pkt_marker_restart :
    after (exec .pktMarkerRestart pkt5) = some (.hdr, 1, false, EV_RESTART) := by decide
theorem test_crc_marker_restart :
    after (exec .crcMarkerRestart crc9) = some (.hdr, 1, false, EV_RESTART) := by decide
theorem test_hdr_marker_data :
    (nextOf (exec .hdrMarkerData (underData hdr1))).map (fun t => (bufAt t 1, t.n))
      = some (0xFD#8, 2) := by decide
/-- L2-S9. -/
theorem test_pkt_marker_data :
    (nextOf (exec .pktMarkerData (underData (reader .pkt [0xFD#8, 0x01#8, 0x03#8, 0x14#8])))).map
      (fun t => (bufAt t 4, t.n, t.st)) = some (0xFD#8, 5, .pkt) := by decide
/-- L2-E6, the unescaped CRC byte under DATA. -/
theorem test_crc_marker_data :
    (nextOf (exec .crcMarkerData (underData (reader .crc [0xFD#8, 0x01#8, 0x44#8, 0x30#8])))).map
      (fun t => (bufAt t 4, t.n, t.st)) = some (0xFD#8, 5, .crc) := by decide
theorem test_hdr_data_overflow :
    after (exec (.hdrDataOverflow 0x03#8) (full hdrCommand)) = some (.sync, 0, false, EV_OVERFLOW) := by
  decide
/-- L2-S10. -/
theorem test_pkt_data_overflow :
    after (exec (.pktDataOverflow 0x01#8) (full pkt5)) = some (.sync, 0, false, EV_OVERFLOW) := by
  decide
/-- L3-P5 step 10. -/
theorem test_crc_data_overflow :
    after (exec (.crcDataOverflow 0xE8#8) (full crc8)) = some (.sync, 0, false, EV_OVERFLOW) := by
  decide
/-- L2-S3. -/
theorem test_hdr_data_hdr0 :
    (nextOf (exec (.hdrDataHdr0 0x05#8) hdr1)).map (fun t => (bufAt t 1, t.n, t.st))
      = some (0x05#8, 2, .hdr) := by decide
/-- L2-D6. -/
theorem test_hdr_data_token :
    (nextOf (exec (.hdrDataToken 0x89#8) hdrToken)).map
      (fun t => (t.frmDest, t.frmBcast, t.frmSrc, t.frmSeq, t.cntFrames))
      = some (0x10#6, 1#1, 0x22#6, 1#2, 1) := by decide
/-- L2-S4. -/
theorem test_hdr_data_command :
    after (exec (.hdrDataCommand 0x03#8) hdrCommand) = some (.pkt, 3, false, EV_NONE) := by decide
/-- L2-S5. -/
theorem test_pkt_data_more :
    after (exec (.pktDataMore 0x14#8) pkt3) = some (.pkt, 4, false, EV_NONE) := by decide
/-- L2-S6. -/
theorem test_pkt_data_last_empty :
    after (exec (.pktDataLast 0x10#8) pkt3) = some (.crc, 4, false, EV_NONE) := by decide
/-- L1-3 step 8. -/
theorem test_pkt_data_last :
    after (exec (.pktDataLast 0x00#8) pkt7) = some (.crc, 8, false, EV_NONE) := by decide
/-- L1-3 step 9. -/
theorem test_crc_data_low :
    after (exec (.crcDataLow 0xEB#8) crc8) = some (.crc, 9, false, EV_NONE) := by decide
/-- L1-3 step 10. -/
theorem test_crc_data_high_pass :
    (nextOf (exec (.crcDataHigh 0x08#8) crc9)).map
      (fun t => (t.st, t.evCode, t.frmCmd, t.frmPayload.take 5))
      = some (.sync, EV_COMMAND, 1#4, [0xBB#8, 0x01#8, 0x00#8, 0x00#8, 0x00#8]) := by decide
/-- L2-D8. -/
theorem test_crc_data_high_error :
    (nextOf (exec (.crcDataHigh 0x09#8) crc9)).map (fun t => (t.st, t.evCode, t.cntCrcErr, t.frmCmd))
      = some (.sync, EV_CRC_ERROR, 1, 0#4) := by decide
theorem test_token :
    (nextOf (exec .token tokenEnd)).map (fun t => (t.frmDest, t.frmSrc, t.evCode))
      = some (0x10#6, 0x22#6, EV_TOKEN) := by decide
theorem test_command :
    (nextOf (exec .command (crcEnd 0x08#8))).map (fun t => (t.frmKind, t.frmSeq, t.frmLen))
      = some (1#1, 3#2, 4#4) := by decide
theorem test_crc_pass :
    (nextOf (exec .crcPass (crcEnd 0x08#8))).map (fun t => (t.evCode, t.cntFrames))
      = some (EV_COMMAND, 1) := by decide
theorem test_crc_error :
    (nextOf (exec .crcError (crcEnd 0x09#8))).map (fun t => (t.evCode, t.cntCrcErr, t.cntFrames))
      = some (EV_CRC_ERROR, 1, 0) := by decide

/-- L2-D12: a 2-bit counter at 3 wraps to 0. -/
theorem test_counter_wraps : inc { Params.default with cntW := 2 } 3 = 0 := by decide
/-- L2-C7. -/
theorem test_crc_of_bad_frame : remainder (crcEnd 0x09#8) = 0x1189#16 := by decide
/-- L2-D9: without the marker the CRC of L1-3's bytes is 0xF1AD. -/
theorem test_crc_without_marker :
    crc16 [0x01#8, 0x03#8, 0x14#8, 0xBB#8, 0x01#8, 0x00#8, 0x00#8] = 0xF1AD#16 := by decide
/-- L1-4. -/
theorem test_esc_encode :
    escEncode [0xFD#8, 0xFD#8, 0xFC#8, 0x00#8] = [0xFD#8, 0xFC#8, 0x7D#8, 0xFC#8, 0x7C#8, 0x00#8] := by
  decide
/-- L2-D1. -/
theorem test_serialize_token :
    serializeToken { dest := 0x3F, bcast := 0, src := 0x01, seq := 2 }
      = [0xFD#8, 0xFC#8, 0x7C#8, 0x06#8] := by decide
/-- L2-E6: the CRC's low byte is escaped. -/
theorem test_serialize_command :
    serializeCommand true { dest := 0, bcast := 0, src := 0x11, seq := 0, cmd := 3, payload := [] }
      = [0xFD#8, 0x01#8, 0x44#8, 0x30#8, 0xFC#8, 0x7D#8, 0xB6#8] := by decide
/-- R28, R30, R34: the derived ports. -/
theorem test_ports :
    evValid State.reset = false ∧ frameValid { State.reset with evCode := EV_TOKEN } = true
    ∧ statSt crc9 = 0b11#2 ∧ (statN crc9).toNat = 9 ∧ statEsc (escaped crc9) = 1#1 := by decide

/-! ## The host's fetch -/

theorem test_fetch_input_word :
    after (step (State.reset.withFetchWord 16 0x1FD)) = some (.hdr, 1, false, EV_NONE) := by decide
theorem test_fetch_selector_marker :
    after (step (State.reset.withFetchWord 8 0x5)) = some (.hdr, 1, false, EV_RESTART) := by decide
theorem test_fetch_selector_data :
    after (step (State.reset.withFetchWord 8 0x6)) = some (.crc, 5, false, EV_NONE) := by decide

/-! ## Witnesses -/

theorem witness_inv_hdr : BlockInv hdr1 ∧ BlockInv hdrToken ∧ BlockInv hdrCommand :=
  ⟨by decide, by decide, by decide⟩
theorem witness_inv_pkt : BlockInv pkt3 ∧ BlockInv pkt5 ∧ BlockInv pkt7 :=
  ⟨by decide, by decide, by decide⟩
theorem witness_inv_crc : BlockInv crc8 ∧ BlockInv crc9 ∧ BlockInv (full crc8) :=
  ⟨by decide, by decide, by decide⟩

theorem witness_LargeBuffersBehaveAlike :
    BlockInv crc9 ∧ 21 ≤ crc9.params.rxBufBytes ∧ 21 ≤ 22
    ∧ ∃ t, stepOn 0x108#11 crc9 = .next t := ⟨by decide, by decide, by decide, _, rfl⟩
theorem witness_ParametersNeverChange :
    ∃ t, step { State.reset with inputs := [0x1FD#11] } = .next t := ⟨_, rfl⟩
theorem witness_StaleBufferBytesAreUnobservable :
    BlockInv hdr1 ∧ SameButStaleBytes hdr1 { hdr1 with buf := hdr1.buf.set 1 0xFF#8 }
    ∧ ∃ t, stepOn 0x105#11 hdr1 = .next t := ⟨by decide, by decide, _, rfl⟩
theorem witness_OutputPortsShowTheState : BlockInv { crc9 with evCode := EV_TOKEN } := by decide
theorem witness_ReachableStatesSatisfyInvariant :
    Params.default.Wf ∧ Reachable Params.default State.reset := ⟨by decide, .reset []⟩
theorem witness_StepKeepsInvariant :
    BlockInv { pkt7 with inputs := [0x100#11] }
    ∧ ∃ t, step { pkt7 with inputs := [0x100#11] } = .next t := ⟨by decide, _, rfl⟩
theorem witness_FrameRegistersStayTidy :
    FrameTidy crc9 ∧ ∃ t, step { crc9 with inputs := [0x108#11] } = .next t := ⟨by decide, _, rfl⟩
theorem witness_FrameRegistersHoldBetweenFrames :
    (0x109#11).getLsbD 10 = false
    ∧ ∃ t, stepOn 0x109#11 crc9 = .next t ∧ t.evCode ≠ 1#3 ∧ t.evCode ≠ 2#3 :=
  ⟨by decide, _, rfl, by decide, by decide⟩
theorem witness_SymbolsRunTheSelectedRow :
    hdrToken.buf.length = hdrToken.params.rxBufBytes
    ∧ decodeFsm (condOf hdrToken) (fsWord hdrToken false) 0x89#8 = .ok (.hdrDataToken 0x89#8)
    ∧ decodeFsm (condOf { hdrToken with n := 7 }) (fsWord hdrToken false) 0x89#8 = .error .noRow :=
  ⟨by decide, rfl, rfl⟩
theorem witness_DecodeOfEncodeIsTheInstruction :
    (Instr.pktDataLast 0x10#8).wellFormed = true
    ∧ rowCondition (tableCond .pkt) (.pktDataLast 0x10#8) = true := by decide
theorem witness_DecodedWordsMatchTheirRow :
    decode .wireSymbol (tableCond .sync) 0x0FD#16 = .ok .marker := rfl
theorem witness_StepRunsTheDecodedInstruction :
    decode .inputWord (condOf hdr1) ((inputWord hdr1).setWidth 16) = .ok .idle := rfl
theorem witness_ResetClearsTheBlock : (0x400#11).getLsbD 10 = true := by decide
theorem witness_HeaderFieldsComeBack : 0 ≤ 15 ∧ 15 ≤ 15 := by decide
theorem witness_ByteCompletes : BlockInv pkt5 := by decide
theorem witness_HeldResetRepeats :
    [0x400#11, 0x7FF#11] ≠ [] ∧ ∀ w ∈ [0x400#11, 0x7FF#11], w.getLsbD 10 = true := by decide
theorem witness_TimeoutAbandonsThePartialFrame : hdr1.st ≠ .sync ∧ crc9.st ≠ .sync := by decide
theorem witness_TimeoutInSyncClearsTheEscape : (escaped State.reset).st = .sync := by decide
theorem witness_EscapedByteIsData : (escaped pkt3).esc = true ∧ BlockInv (escaped pkt3) := by decide
theorem witness_EscapeMarkerSetsTheFlag : pkt3.esc = false := by decide
theorem witness_MarkerByteIsAMarker :
    (State.reset.esc = false ∧ BlockInv State.reset ∧ State.reset.st = .sync)
    ∧ (pkt3.esc = false ∧ BlockInv pkt3 ∧ pkt3.st ≠ .sync ∧ pkt3.params.midMarker = .restart) := by
  decide
theorem witness_PlainByteIsData :
    pkt3.esc = false ∧ 0xFB#8 ≠ 0xFC#8 ∧ 0xFB#8 ≠ 0xFD#8 ∧ BlockInv pkt3 := by decide
theorem witness_SyncDiscardsUntilAMarker :
    State.reset.st = .sync ∧ [0x00#8, 0xFC#8, 0xFD#8] ≠ []
    ∧ Symbol.marker ∉ (classifyAll State.reset.esc [0x00#8, 0xFC#8, 0xFD#8]).1 := by decide
/-- Last clause of R86: a step that leaves SYNC. -/
theorem witness_SyncMarkerStartsAFrame :
    State.reset.st = .sync ∧ ∃ t, stepOn 0x1FD#11 State.reset = .next t ∧ t.st ≠ .sync :=
  ⟨by decide, _, rfl, by decide⟩
theorem witness_SyncDataIsDiscarded : State.reset.st = .sync := by decide
theorem witness_MidFrameMarkerRestarts :
    hdr1.params.midMarker = .restart ∧ hdr1.st = .hdr
    ∧ pkt3.params.midMarker = .restart ∧ pkt3.st = .pkt
    ∧ crc8.params.midMarker = .restart ∧ crc8.st = .crc := by decide
theorem witness_MidFrameMarkerIsData :
    (underData hdr1).params.midMarker = .data ∧ (underData hdr1).st = .hdr ∧ BlockInv (underData hdr1)
    ∧ (underData pkt3).st = .pkt ∧ BlockInv (underData pkt3)
    ∧ (underData crc8).st = .crc ∧ BlockInv (underData crc8) :=
  ⟨by decide, by decide, by decide, by decide, by decide, by decide, by decide⟩
theorem witness_FullBufferOverflows :
    ((full hdrCommand).n = (full hdrCommand).params.rxBufBytes ∧ (full hdrCommand).st = .hdr)
    ∧ ((full pkt5).n = (full pkt5).params.rxBufBytes ∧ (full pkt5).st = .pkt)
    ∧ ((full crc8).n = (full crc8).params.rxBufBytes ∧ (full crc8).st = .crc) := by decide
theorem witness_FirstHeaderByteIsStored :
    hdr1.st = .hdr ∧ hdr1.n = 1 ∧ 1 < hdr1.params.rxBufBytes := by decide
theorem witness_SecondHeaderByteCompletesAToken :
    hdrToken.st = .hdr ∧ hdrToken.n = 2 ∧ 2 < hdrToken.params.rxBufBytes
    ∧ hdrToken.buf.length = hdrToken.params.rxBufBytes
    ∧ (bufAt hdrToken 1).getLsbD 0 = false := by decide
theorem witness_SecondHeaderByteOpensACommand :
    hdrCommand.st = .hdr ∧ hdrCommand.n = 2 ∧ 2 < hdrCommand.params.rxBufBytes
    ∧ hdrCommand.buf.length = hdrCommand.params.rxBufBytes
    ∧ (bufAt hdrCommand 1).getLsbD 0 = true := by decide
/-- The first clause at the cmdlen byte (count 3, L = 4), the second there (L = 0) and at the last
payload byte (count 7, L = 4). -/
theorem witness_PacketBytesAreStored :
    (pkt3.st = .pkt ∧ 3 ≤ pkt3.n ∧ pkt3.n < pkt3.params.rxBufBytes
      ∧ pkt3.buf.length = pkt3.params.rxBufBytes
      ∧ 4 = ((if pkt3.n = 3 then 0x14#8 else bufAt pkt3 3).extractLsb' 0 4).toNat
      ∧ pkt3.n + 1 < 4 + 4)
    ∧ (0 = ((if pkt3.n = 3 then 0x10#8 else bufAt pkt3 3).extractLsb' 0 4).toNat
      ∧ pkt3.n + 1 = 4 + 0)
    ∧ (pkt7.st = .pkt ∧ 3 ≤ pkt7.n ∧ pkt7.n < pkt7.params.rxBufBytes
      ∧ pkt7.buf.length = pkt7.params.rxBufBytes
      ∧ 4 = ((if pkt7.n = 3 then 0x00#8 else bufAt pkt7 3).extractLsb' 0 4).toNat
      ∧ pkt7.n + 1 = 4 + 4) := by decide
theorem witness_CrcLowByteIsStored :
    crc8.st = .crc ∧ crc8.n = 4 + ((bufAt crc8 3).extractLsb' 0 4).toNat
    ∧ crc8.n < crc8.params.rxBufBytes := by decide
/-- The first clause with L1-3's last byte, the second with L2-D8's. -/
theorem witness_CrcHighByteCompletesACommand :
    crc9.st = .crc ∧ 4 = ((bufAt crc9 3).extractLsb' 0 4).toNat ∧ crc9.n = 5 + 4
    ∧ crc9.n < crc9.params.rxBufBytes ∧ crc9.buf.length = crc9.params.rxBufBytes
    ∧ crc16 ((crc9.buf.take crc9.n ++ [0x08#8]).drop
        (if crc9.params.crcCoversMarker then 0 else 1)) = 0x0000#16
    ∧ crc16 ((crc9.buf.take crc9.n ++ [0x09#8]).drop
        (if crc9.params.crcCoversMarker then 0 else 1)) ≠ 0x0000#16 := by decide
/-- A row of another state, one whose condition fails at a boundary count, and each other clause. -/
theorem witness_RowsStopWhereNotSelected :
    pkt3.buf.length = pkt3.params.rxBufBytes
    ∧ exec (.crcDataLow 0x14#8) pkt3 = .fault .rowNotSelected
    ∧ exec (.pktDataMore 0x10#8) pkt3 = .fault .rowNotSelected
    ∧ pkt3.esc = false ∧ (escaped pkt3).esc = true
    ∧ exec .token hdrToken = .fault .rowNotSelected
    ∧ exec .crcPass (crcEnd 0x09#8) = .fault .rowNotSelected
    ∧ exec .crcError (crcEnd 0x08#8) = .fault .rowNotSelected
    ∧ State.reset.st = .sync ∧ pkt3.st ≠ .sync :=
  ⟨by decide, rfl, rfl, rfl, rfl, rfl, by rfl, by rfl, rfl, by decide⟩
/-- The last clause with the count at its least value, 4. -/
theorem witness_OverflowNeedsASmallBuffer :
    BlockInv (full (reader .crc [0xFD#8, 0x01#8, 0x03#8, 0x10#8]))
    ∧ 4 ≤ (full (reader .crc [0xFD#8, 0x01#8, 0x03#8, 0x10#8])).n
    ∧ ∃ t, stepOn 0x1AA#11 (full (reader .crc [0xFD#8, 0x01#8, 0x03#8, 0x10#8])) = .next t
      ∧ t.evCode = 5#3 := ⟨by decide, by decide, _, rfl, by decide⟩
theorem witness_ResynchronizesAfterGarbage :
    BlockInv State.reset ∧ State.reset.params.midMarker = .restart
    ∧ (∃ s1, feed (byteSteps [0x12#8, 0xFD#8]) State.reset = .next s1 ∧ s1.esc = false)
    ∧ (∀ e ∈ events (byteSteps [0x12#8, 0xFD#8]) State.reset, e ≠ 1#3 ∧ e ≠ 2#3)
    ∧ ({ dest := 0, bcast := 0, src := 0, seq := 0, cmd := 0,
         payload := List.replicate 15 0xFD#8 } : CommandFields).wellFormed = true
    ∧ 6 + 15 ≤ State.reset.params.rxBufBytes :=
  ⟨by decide, by decide, ⟨_, rfl, by decide⟩, by decide, by decide, by decide⟩
theorem witness_CrcCheckComparesTheStoredCrc :
    4 = ((bufAt (crcEnd 0x08#8) 3).extractLsb' 0 4).toNat ∧ 6 + 4 ≤ (crcEnd 0x08#8).buf.length := by
  decide
theorem witness_CompleteCommandIsEmittedOrCounted :
    ((crcEnd 0x08#8).st = .crc ∧ 4 = ((bufAt (crcEnd 0x08#8) 3).extractLsb' 0 4).toNat
      ∧ (crcEnd 0x08#8).n = 6 + 4 ∧ (crcEnd 0x08#8).n ≤ (crcEnd 0x08#8).buf.length
      ∧ remainder (crcEnd 0x08#8) = 0x0000#16 ∧ (bufAt (crcEnd 0x08#8) 1).getLsbD 0 = true)
    ∧ ((crcEnd 0x09#8).st = .crc ∧ 4 = ((bufAt (crcEnd 0x09#8) 3).extractLsb' 0 4).toNat
      ∧ (crcEnd 0x09#8).n = 6 + 4 ∧ (crcEnd 0x09#8).n ≤ (crcEnd 0x09#8).buf.length
      ∧ remainder (crcEnd 0x09#8) ≠ 0x0000#16) := by decide
theorem witness_CompleteTokenIsEmitted :
    tokenEnd.st = .hdr ∧ tokenEnd.n = 3 ∧ (bufAt tokenEnd 1).getLsbD 0 = false := by decide
theorem witness_CountersCountTheirEvents :
    (0x200#11).getLsbD 10 = false ∧ ∃ t, stepOn 0x200#11 pkt3 = .next t ∧ t.evCode = 4#3 :=
  ⟨by decide, _, rfl, by decide⟩
theorem witness_CountersNeverSteer : ∃ t, stepOn 0x108#11 crc9 = .next t := ⟨_, rfl⟩
theorem witness_SerializedFramesHaveOneMarker :
    ({ dest := 0, bcast := 0, src := 0, seq := 0, cmd := 0,
       payload := List.replicate 15 0xFD#8 } : CommandFields).wellFormed = true := by decide
/-- With an IDLE step inside the feed. -/
theorem witness_TokenRoundTrip :
    BlockInv State.reset ∧ State.reset.st = .sync ∧ State.reset.esc = false
    ∧ FeedOf [0x1FD#11, 0x0FF#11, 0x1FC#11, 0x17C#11, 0x106#11]
        (serializeToken { dest := 0x3F, bcast := 0, src := 0x01, seq := 2 }) := by decide
theorem witness_CommandRoundTrip :
    BlockInv State.reset ∧ State.reset.st = .sync ∧ State.reset.esc = false
    ∧ ({ dest := 0, bcast := 0, src := 0x11, seq := 0, cmd := 3, payload := [] }
        : CommandFields).wellFormed = true
    ∧ 6 + 0 ≤ State.reset.params.rxBufBytes
    ∧ FeedOf [0x1FD#11, 0x101#11, 0x000#11, 0x144#11, 0x130#11, 0x1FC#11, 0x37D#11, 0x1B6#11]
        (serializeCommand true
          { dest := 0, bcast := 0, src := 0x11, seq := 0, cmd := 3, payload := [] }) := by decide
/-- One step for each event code, 1 to 6. -/
theorem witness_EventsSayWhereTheReaderStands :
    (∀ w ∈ [0x189#11, 0x108#11, 0x109#11, 0x200#11, 0x101#11, 0x1FD#11], w.getLsbD 10 = false)
    ∧ (∃ t, stepOn 0x189#11 hdrToken = .next t ∧ t.evCode = 1#3)
    ∧ (∃ t, stepOn 0x108#11 crc9 = .next t ∧ t.evCode = 2#3)
    ∧ (∃ t, stepOn 0x109#11 crc9 = .next t ∧ t.evCode = 3#3)
    ∧ (∃ t, stepOn 0x200#11 crc9 = .next t ∧ t.evCode = 4#3)
    ∧ (∃ t, stepOn 0x101#11 (full pkt5) = .next t ∧ t.evCode = 5#3)
    ∧ ∃ t, stepOn 0x1FD#11 pkt5 = .next t ∧ t.evCode = 6#3 :=
  ⟨by decide, ⟨_, rfl, by decide⟩, ⟨_, rfl, by decide⟩, ⟨_, rfl, by decide⟩, ⟨_, rfl, by decide⟩,
    ⟨_, rfl, by decide⟩, ⟨_, rfl, by decide⟩⟩
/-- A state that satisfies R23, and one that breaks it and stops. -/
theorem witness_OnlyBrokenStatesStop :
    CountsAgree pkt5
    ∧ step { hdr1 with n := 7, inputs := [0x100#11] } = .fault .undefinedState :=
  ⟨by decide, rfl⟩
theorem witness_EmittedFrameLastsThreeSteps :
    BlockInv hdrToken ∧ (0x1FD#11).getLsbD 10 = false ∧ (0x142#11).getLsbD 10 = false
    ∧ ∃ t0 t1 t2, stepOn 0x189#11 hdrToken = .next t0 ∧ frameValid t0 = true
    ∧ stepOn 0x1FD#11 t0 = .next t1 ∧ stepOn 0x142#11 t1 = .next t2 :=
  ⟨by decide, by decide, by decide, _, _, _, rfl, by decide, rfl, rfl⟩

end Sys2Proof.Tests
end

namespace Sys2Proof.Machine

/-! ### RESET (R54, R73) -/

/-- A row of the opcode table whose pattern is one bit set reads exactly that bit of the word. -/
theorem hits_twoPow {k i : Nat} (w : BitVec k) (hi : i < k) :
    hits w (BitVec.twoPow k i) (BitVec.twoPow k i) = w.getLsbD i := by
  unfold hits
  rw [BitVec.and_twoPow]
  cases w.getLsbD i with
  | true => simp
  | false =>
    have hbit : (0#k).getLsbD i ≠ (BitVec.twoPow k i).getLsbD i := by simp [hi]
    have hne : 0#k ≠ BitVec.twoPow k i := fun h => hbit (congrArg (·.getLsbD i) h)
    simpa using hne

/-- R54, R73: with `rst` (bit 10) high the word selects RESET, whatever the state and the other
bits. -/
theorem decodeInput_of_rst {w : InputWord} (hrst : w.getLsbD 10 = true) (st : Fsm) :
    decodeInput st w = .reset := by
  have hrow : hits w 0x400#11 0x400#11 = true := (hits_twoPow w (by decide : 10 < 11)).trans hrst
  exact if_pos hrow

/-- RESET reads nothing of the state but the parameters and the input list. -/
theorem exec_reset (s : State) :
    exec .reset s = .next { State.resetWith s.params with inputs := s.inputs } := rfl

/-- A step with `rst` high has the effect of RESET: the prologue's `ev_code` (R72) is overwritten. -/
theorem stepOn_of_rst {w : InputWord} (hrst : w.getLsbD 10 = true) (s : State) :
    stepOn w s = .next { State.resetWith s.params with inputs := s.inputs } := by
  rw [stepOn_eq, decodeInput_of_rst hrst, exec_reset]

/-- Settles O19: the row RESET and every step with `rst` high end in the state of R40. -/
theorem resetClearsTheBlock : Obligations.ResetClearsTheBlock := by
  unfold Obligations.ResetClearsTheBlock
  rintro s t rfl
  exact ⟨exec_reset s, fun _ hrst => stepOn_of_rst hrst s⟩

end Sys2Proof.Machine

namespace Sys2Proof.Machine

/-! ### The ports in the input word (R53) -/

theorem packInput_rst (r t v : Bool) (d : Byte) : (packInput r t v d).getLsbD 10 = r := by
  unfold packInput
  simp only [BitVec.getLsbD_append]
  simp

theorem packInput_timeout (r t v : Bool) (d : Byte) :
    (packInput r t v d).getLsbD 9 = t := by
  unfold packInput
  simp only [BitVec.getLsbD_append]
  simp

theorem packInput_valid (r t v : Bool) (d : Byte) : (packInput r t v d).getLsbD 8 = v := by
  unfold packInput
  simp only [BitVec.getLsbD_append]
  simp

@[simp] theorem packInput_data (r t v : Bool) (d : Byte) :
    (packInput r t v d).extractLsb' 0 8 = d :=
  BitVec.extractLsb'_append_eq_right

/-! ### The four patterns (R54) -/

/-- A row of the opcode table fits a word when it does so at every bit. -/
theorem hits_iff {k : Nat} {w m p : BitVec k} :
    hits w m p = true ↔ ∀ i < k, (w.getLsbD i && m.getLsbD i) = p.getLsbD i := by
  simp only [hits, beq_iff_eq, BitVec.eq_of_getLsbD_eq_iff, BitVec.getLsbD_and]

/-- A row that asks one bit to be zero reads that bit's complement. -/
theorem hits_twoPow_zero {k i : Nat} (w : BitVec k) (hi : i < k) :
    hits w (BitVec.twoPow k i) 0#k = !w.getLsbD i := by
  unfold hits
  rw [BitVec.and_twoPow]
  cases w.getLsbD i with
  | true =>
    have hne : BitVec.twoPow k i ≠ 0#k := by
      simp [BitVec.toNat_eq, BitVec.toNat_twoPow_of_lt hi]
    simpa using hne
  | false => simp

/-- A row that joins two rows over disjoint masks fits a word exactly when both do: with each
pattern inside its mask, at most one of the two asks for any bit. -/
theorem hits_or {k : Nat} (w : BitVec k) {m p m' p' mask pat : BitVec k} (hmask : mask = m ||| m')
    (hpat : pat = p ||| p') (hm : m &&& m' = 0#k) (hp : p &&& m = p) (hp' : p' &&& m' = p') :
    hits w mask pat = (hits w m p && hits w m' p') := by
  rw [hmask, hpat, Bool.eq_iff_iff, Bool.and_eq_true, hits_iff, hits_iff, hits_iff, ← forall₂_and]
  refine forall₂_congr fun i _ => ?_
  have hmi := congrArg (·.getLsbD i) hm
  have hpi := congrArg (·.getLsbD i) hp
  have hpi' := congrArg (·.getLsbD i) hp'
  simp only [BitVec.getLsbD_and, BitVec.getLsbD_or, BitVec.getLsbD_zero] at hmi hpi hpi' ⊢
  grind

theorem hits_resetPattern (w : InputWord) : hits w 0x400#11 0x400#11 = w.getLsbD 10 :=
  hits_twoPow w (by decide : 10 < 11)

theorem hits_bytePattern (w : InputWord) :
    hits w 0x500#11 0x100#11 = (!w.getLsbD 10 && w.getLsbD 8) := by
  rw [← hits_twoPow_zero w (by decide : 10 < 11), ← hits_twoPow w (by decide : 8 < 11)]
  exact hits_or w (by decide) (by decide) (by decide) (by decide) (by decide)

/-- TIMEOUT and IDLE ask the same two bits to be zero, and differ in bit 9. -/
theorem hits_noBytePattern (w : InputWord) :
    hits w 0x500#11 0x000#11 = (!w.getLsbD 10 && !w.getLsbD 8) := by
  rw [← hits_twoPow_zero w (by decide : 10 < 11), ← hits_twoPow_zero w (by decide : 8 < 11)]
  exact hits_or w (by decide) (by decide) (by decide) (by decide) (by decide)

theorem hits_timeoutPattern (w : InputWord) :
    hits w 0x700#11 0x200#11 = ((!w.getLsbD 10 && !w.getLsbD 8) && w.getLsbD 9) := by
  rw [← hits_noBytePattern, ← hits_twoPow w (by decide : 9 < 11)]
  exact hits_or w (by decide) (by decide) (by decide) (by decide) (by decide)

theorem hits_idlePattern (w : InputWord) :
    hits w 0x700#11 0x000#11 = ((!w.getLsbD 10 && !w.getLsbD 8) && !w.getLsbD 9) := by
  rw [← hits_noBytePattern, ← hits_twoPow_zero w (by decide : 9 < 11)]
  exact hits_or w (by decide) (by decide) (by decide) (by decide) (by decide)

/-- R54: "The four patterns are disjoint and cover all 2^11 words". -/
theorem exactly_one_pattern_hits (w : InputWord) :
    ([(0x400#11, 0x400#11), (0x500#11, 0x100#11), (0x700#11, 0x200#11), (0x700#11, 0x000#11)].filter
      (fun row => hits w row.1 row.2)).length = 1 := by
  simp only [List.filter_cons, List.filter_nil, hits_resetPattern, hits_bytePattern,
    hits_timeoutPattern, hits_idlePattern]
  generalize w.getLsbD 10 = r, w.getLsbD 8 = v, w.getLsbD 9 = t
  revert r v t
  decide

/-- R54: the operation by the ports' priority, `rst`, then `rx_valid`, then `rx_timeout`. -/
theorem decodeInput_eq (st : Fsm) (w : InputWord) :
    decodeInput st w =
      if w.getLsbD 10 then .reset
      else if w.getLsbD 8 then .byte (w.extractLsb' 0 8)
      else if w.getLsbD 9 then (if st = .sync then .timeoutSync else .timeoutMidframe)
      else .idle := by
  unfold decodeInput
  rw [hits_resetPattern, hits_bytePattern, hits_timeoutPattern]
  cases w.getLsbD 10 with
  | true => rfl
  | false =>
    cases w.getLsbD 8 with
    | true => rfl
    | false => rfl

/-- Settles O11: the packing is read back bit by bit, and each pattern is a condition on the bits
`rst`, `rx_valid` and `rx_timeout` alone. -/
theorem inputWordSelectsOneOperation : Obligations.InputWordSelectsOneOperation := by
  unfold Obligations.InputWordSelectsOneOperation
  constructor
  · intro r t v d
    exact ⟨packInput_rst r t v d, packInput_timeout r t v d, packInput_valid r t v d,
      packInput_data r t v d⟩
  · intro st w
    exact ⟨exactly_one_pattern_hits w, decodeInput_eq st w⟩

/-! ### The bits an operation does not read (R55) -/

/-- The input word acts on the state only through the operation it selects. -/
theorem stepOn_congr {w w' : InputWord} {s : State}
    (h : decodeInput s.st w = decodeInput s.st w') : stepOn w s = stepOn w' s := by
  rw [stepOn_eq, stepOn_eq, h]

/-- R55: without `rx_valid` the data byte takes no part in the choice of the operation. -/
theorem decodeInput_packInput_not_valid (st : Fsm) (r t : Bool) (d : Byte) :
    decodeInput st (packInput r t false d) =
      if r then .reset
      else if t then (if st = .sync then .timeoutSync else .timeoutMidframe)
      else .idle := by
  simp only [decodeInput_eq, packInput_rst, packInput_valid, packInput_timeout,
    Bool.false_eq_true, if_false]

/-- Settles O12: words that differ in bits not read select the same operation. -/
theorem unreadInputBitsDoNotMatter : Obligations.UnreadInputBitsDoNotMatter := by
  unfold Obligations.UnreadInputBitsDoNotMatter
  intro s t t' v v' d d'
  constructor
  · intro r
    apply stepOn_congr
    rw [decodeInput_packInput_not_valid, decodeInput_packInput_not_valid]
  · rw [stepOn_of_rst (packInput_rst true t v d), stepOn_of_rst (packInput_rst true t' v' d')]

end Sys2Proof.Machine

namespace Sys2Proof.Machine

/-! ### The step of a BYTE, of a TIMEOUT and of an IDLE word (R54) -/

/-- R54: `rx_valid` without `rst` selects BYTE, and wins over `rx_timeout`. -/
theorem stepOn_packInput_byte (t : Bool) (b : Byte) (s : State) :
    stepOn (packInput false t true b) s = exec (.byte b) { s with evCode := EV_NONE } := by
  rw [stepOn_eq, decodeInput_eq, packInput_rst, packInput_valid, packInput_data]
  rfl

theorem stepOn_packInput_timeoutMidframe {s : State} (hst : s.st ≠ .sync) (d : Byte) :
    stepOn (packInput false true false d) s =
      exec .timeoutMidframe { s with evCode := EV_NONE } := by
  rw [stepOn_eq, decodeInput_packInput_not_valid]
  simp [hst]

theorem stepOn_packInput_timeoutSync {s : State} (hst : s.st = .sync) (d : Byte) :
    stepOn (packInput false true false d) s = exec .timeoutSync { s with evCode := EV_NONE } := by
  rw [stepOn_eq, decodeInput_packInput_not_valid]
  simp [hst]

theorem stepOn_packInput_idle (d : Byte) (s : State) :
    stepOn (packInput false false false d) s = exec .idle { s with evCode := EV_NONE } := by
  rw [stepOn_eq, decodeInput_packInput_not_valid]
  rfl

/-! ### IDLE (R74) -/

theorem exec_idle (s : State) : exec .idle s = .next s := rfl

/-- Settles O21: the row IDLE is the identity, so its step is the prologue of R72 alone. -/
theorem idleChangesNothing : Obligations.IdleChangesNothing := by
  unfold Obligations.IdleChangesNothing
  intro s d
  exact ⟨exec_idle s, (stepOn_packInput_idle d s).trans (exec_idle _)⟩

/-! ### TIMEOUT (R75, R76) -/

/-- R75, R110: all that abandoning a partial frame writes; no frame register and no buffer byte is
among it. -/
theorem takeError_incomplete_fields (s : State) :
    takeError .incomplete s =
      { s with cntIncomplete := (s.cntIncomplete + 1) % 2 ^ s.params.cntW, st := .sync, n := 0
               esc := false, evCode := 4#3 } := rfl

theorem exec_timeoutMidframe {s : State} (hst : s.st ≠ .sync) :
    exec .timeoutMidframe s = .next
      { s with cntIncomplete := (s.cntIncomplete + 1) % 2 ^ s.params.cntW, st := .sync, n := 0
               esc := false, evCode := 4#3 } :=
  congrArg Host.Outcome.next ((if_pos hst).trans (takeError_incomplete_fields s))

theorem exec_timeoutSync {s : State} (hst : s.st = .sync) :
    exec .timeoutSync s = .next { s with esc := false } :=
  congrArg Host.Outcome.next (if_pos hst)

/-- Settles O23: `st` survives the prologue, so a TIMEOUT mid-frame takes the error EV_INCOMPLETE,
whose event replaces the cleared one. -/
theorem timeoutAbandonsThePartialFrame : Obligations.TimeoutAbandonsThePartialFrame := by
  unfold Obligations.TimeoutAbandonsThePartialFrame
  intro s d hst
  exact ⟨exec_timeoutMidframe hst,
    (stepOn_packInput_timeoutMidframe hst d).trans (exec_timeoutMidframe hst)⟩

/-- Settles O24: in SYNC the word selects the other TIMEOUT row, which writes `esc` alone. -/
theorem timeoutInSyncClearsTheEscape : Obligations.TimeoutInSyncClearsTheEscape := by
  unfold Obligations.TimeoutInSyncClearsTheEscape
  intro s d hst
  exact ⟨exec_timeoutSync hst,
    (stepOn_packInput_timeoutSync hst d).trans (exec_timeoutSync hst)⟩

/-! ### The classes of a wire symbol (R56) -/

theorem packWire_esc (e : Bool) (b : Byte) : (packWire e b).getLsbD 8 = e := by
  unfold packWire
  simp only [BitVec.getLsbD_append]
  simp

@[simp] theorem packWire_byte (e : Bool) (b : Byte) : (packWire e b).extractLsb' 0 8 = b :=
  BitVec.extractLsb'_append_eq_right

theorem packWire_inj {e : Bool} {b b' : Byte} : packWire e b = packWire e b' ↔ b = b' := by
  constructor
  · intro h
    simpa using congrArg (·.extractLsb' 0 8) h
  · exact congrArg (packWire e)

/-- A row that reads every bit fits its pattern alone. -/
theorem hits_allOnes {k : Nat} (w p : BitVec k) : hits w (BitVec.allOnes k) p = (w == p) := by
  unfold hits
  rw [BitVec.and_allOnes]

/-- R56: only DATA_ESCAPED asks for a set escape flag, and it reads no bit of the byte. -/
theorem hits_dataEscapedPattern (e : Bool) (b : Byte) :
    hits (packWire e b) 0x100#9 0x100#9 = e :=
  (hits_twoPow _ (by decide : 8 < 9)).trans (packWire_esc e b)

/-- R56: the patterns of ESC_PREFIX and MARKER name one byte outside an escape pair. -/
theorem hits_oneBytePattern (b c : Byte) :
    hits (packWire false b) 0x1FF#9 (packWire false c) = decide (b = c) := by
  have hrow := hits_allOnes (packWire false b) (packWire false c)
  rw [Bool.eq_iff_iff, beq_iff_eq, packWire_inj] at hrow
  rw [Bool.eq_iff_iff, decide_eq_true_iff]
  exact hrow

/-- R56, R77: the class of a wire byte, by the first of R78-R81 that matches. -/
theorem decodeWire_packWire (e : Bool) (b : Byte) :
    decodeWire (packWire e b) =
      if e then .dataEscaped b
      else if b = Config.ESCAPE then .escPrefix
      else if b = Config.MARKER then .marker
      else .dataPlain b := by
  unfold decodeWire
  rw [hits_dataEscapedPattern, packWire_byte]
  cases e with
  | true => rfl
  | false =>
    have hescape : hits (packWire false b) 0x1FF#9 0x0FC#9 = decide (b = Config.ESCAPE) :=
      hits_oneBytePattern b Config.ESCAPE
    have hmarker : hits (packWire false b) 0x1FF#9 0x0FD#9 = decide (b = Config.MARKER) :=
      hits_oneBytePattern b Config.MARKER
    simp only [hescape, hmarker, decide_eq_true_iff]

/-! ### BYTE (R77, R79) -/

/-- R77: BYTE is the row of its wire symbol. -/
theorem exec_byte_eq_exec_decodeWire (b : Byte) (s : State) :
    exec (.byte b) s = exec (decodeWire (wireWord s b)) s := by
  unfold wireWord
  rw [decodeWire_packWire]
  change execByte b s = _
  unfold execByte
  split_ifs with hesc hescape hmarker
  · rfl
  · rfl
  · rfl
  · rfl

/-- Settles O25: the decoder's classes are R77's cases in R77's order, and `esc` survives the
prologue. -/
theorem byteRunsItsWireSymbol : Obligations.ByteRunsItsWireSymbol := by
  unfold Obligations.ByteRunsItsWireSymbol
  intro s b t
  exact ⟨exec_byte_eq_exec_decodeWire b s,
    (stepOn_packInput_byte t b s).trans (exec_byte_eq_exec_decodeWire b _),
    decodeWire_packWire s.esc b⟩

theorem exec_escPrefix {s : State} (hesc : s.esc = false) :
    exec .escPrefix s = .next { s with esc := true } :=
  whenSelected_of hesc

/-- Settles O28: outside an escape pair the byte 0xFC is classified as ESC_PREFIX, which writes
`esc` alone. -/
theorem escapeMarkerSetsTheFlag : Obligations.EscapeMarkerSetsTheFlag := by
  unfold Obligations.EscapeMarkerSetsTheFlag
  intro s hesc
  have hclass : decodeWire (wireWord s 0xFC#8) = .escPrefix := by
    unfold wireWord
    rw [decodeWire_packWire, hesc]
    rfl
  constructor
  · exact exec_escPrefix hesc
  · rw [exec_byte_eq_exec_decodeWire, hclass, exec_escPrefix hesc]

end Sys2Proof.Machine

namespace Sys2Proof.Machine

/-! ### The type bit and the length field, read beside a store (R16, R64) -/

/-- R59, R64: the frame-type bit is bit 0 of hdr0. -/
theorem typeBit_eq_ofBool (s : State) : typeBit s = BitVec.ofBool ((bufAt s 1).getLsbD 0) := by
  refine BitVec.eq_of_getLsbD_eq fun i hi => ?_
  obtain rfl := Nat.lt_one_iff.1 hi
  simp [typeBit, typeField]

/-- R95: the byte just stored gives `L` when it is the cmdlen byte itself. -/
theorem payloadLen_storeByte_eq_cmdlen {d : Byte} {s : State} (hn : s.n < s.buf.length) :
    payloadLen (storeByte d s) =
      ((if s.n = 3 then d else bufAt s 3).extractLsb' 0 4).toNat := by
  rw [payloadLen_storeByte hn]
  split_ifs
  · rfl
  · rfl

/-- A store past the cmdlen byte leaves `L`, whether or not the buffer holds its index. -/
theorem payloadLen_storeByte_of_ne {d : Byte} {s : State} (hn : s.n ≠ 3) :
    payloadLen (storeByte d s) = payloadLen s := by
  unfold payloadLen
  rw [bufAt_storeByte_ne hn.symm]

/-- R90, with the count written out. -/
theorem storeByte_of_count {k : Nat} {s : State} (hn : s.n = k) (d : Byte) :
    storeByte d s = { s with buf := s.buf.set k d, n := k + 1 } := by
  subst hn
  rfl

/-! ### The dispatch of a DATA symbol (R57, R90) -/

/-- R87: in SYNC a DATA symbol is discarded. -/
theorem symData_of_sync {s : State} (hst : s.st = .sync) (d : Byte) : symData d s = .next s := by
  unfold symData
  rw [hst]
  exact whenSelected_of hst

/-- R90: with room in the buffer, a DATA symbol passes both checks of the count. -/
theorem ite_bufFull_of_room {s : State} (hroom : BufRoom s) (full broken stored : Result) :
    (if BufFull s then full else if ¬BufRoom s then broken else stored) = stored :=
  (if_neg (Nat.ne_of_lt hroom)).trans (if_neg (not_not_intro hroom))

theorem symData_hdr_of_room {s : State} (hst : s.st = .hdr) (hroom : BufRoom s) (d : Byte) :
    symData d s =
      if s.n + 1 = 2 then exec (.hdrDataHdr0 d) s
      else if s.n + 1 = 3 then
        if typeBit (storeByte d s) = 0#1 then exec (.hdrDataToken d) s
        else exec (.hdrDataCommand d) s
      else .fault .undefinedState := by
  unfold symData
  rw [hst]
  exact ite_bufFull_of_room hroom _ _ _

theorem symData_pkt_of_room {s : State} (hst : s.st = .pkt) (hroom : BufRoom s) (d : Byte) :
    symData d s =
      if s.n + 1 < 4 + payloadLen (storeByte d s) then exec (.pktDataMore d) s
      else if s.n + 1 = 4 + payloadLen (storeByte d s) then exec (.pktDataLast d) s
      else .fault .undefinedState := by
  unfold symData
  rw [hst]
  exact ite_bufFull_of_room hroom _ _ _

theorem symData_crc_of_room {s : State} (hst : s.st = .crc) (hroom : BufRoom s) (d : Byte) :
    symData d s =
      if s.n + 1 = 5 + payloadLen (storeByte d s) then exec (.crcDataLow d) s
      else if s.n + 1 = 6 + payloadLen (storeByte d s) then exec (.crcDataHigh d) s
      else .fault .undefinedState := by
  unfold symData
  rw [hst]
  exact ite_bufFull_of_room hroom _ _ _

/-! ### The end of a command frame (R98, R104-R108) -/

/-- Storing at index `k` and keeping the bytes up to it appends the byte to the `k` before it. -/
theorem take_succ_set {α : Type} {l : List α} {k : Nat} (hk : k < l.length) (d : α) :
    (l.set k d).take (k + 1) = l.take k ++ [d] := by
  rw [List.take_succ_eq_append_getElem (by simpa using hk), List.take_set_of_le le_rfl,
    List.getElem_set_self]

/-- R104: after the store of a frame's last byte the check runs over the bytes before it and that
byte. -/
theorem checkedBytes_storeByte {d : Byte} {s : State} (hn : s.n = 5 + payloadLen s)
    (hlen : s.n < s.buf.length) :
    checkedBytes (storeByte d s) =
      (s.buf.take s.n ++ [d]).drop (if s.params.crcCoversMarker then 0 else 1) := by
  have hend : 6 + payloadLen (storeByte d s) = s.n + 1 := by
    rw [payloadLen_storeByte_of_ne (by omega), hn]
    omega
  unfold checkedBytes
  rw [hend, storeByte_buf, take_succ_set hlen]
  rfl

/-- R108: the payload registers are the `L` bytes after cmdlen, filled up with 0x00. -/
theorem payloadBytes_eq_append {s : State} (hlen : 4 + payloadLen s ≤ s.buf.length) :
    payloadBytes s =
      (s.buf.drop 4).take (payloadLen s) ++ List.replicate (15 - payloadLen s) 0x00#8 := by
  have hmax := payloadLen_le s
  unfold payloadBytes
  refine List.ext_getElem ?_ fun i hi _ => ?_
  · simp only [List.length_map, List.length_range, List.length_append, List.length_take,
      List.length_drop, List.length_replicate]
    omega
  · have hpay : ((s.buf.drop 4).take (payloadLen s)).length = payloadLen s := by
      rw [List.length_take, List.length_drop]
      omega
    rw [List.getElem_map, List.getElem_range]
    by_cases hi' : i < payloadLen s
    · rw [if_pos hi', List.getElem_append_left (by omega), List.getElem_take, List.getElem_drop]
      exact List.getD_eq_getElem _ _ _
    · rw [if_neg hi', List.getElem_append_right (by omega), List.getElem_replicate]

/-- R108: the store of a frame's last byte touches no payload byte. -/
theorem payloadBytes_storeByte {d : Byte} {s : State} (hn : s.n = 5 + payloadLen s)
    (hlen : s.n < s.buf.length) :
    payloadBytes (storeByte d s) =
      (s.buf.drop 4).take (payloadLen s) ++ List.replicate (15 - payloadLen s) 0x00#8 := by
  have hL : payloadLen (storeByte d s) = payloadLen s := payloadLen_storeByte_of_ne (by omega)
  rw [payloadBytes_eq_append (by rw [hL, length_buf_storeByte]; omega), hL, storeByte_buf,
    List.drop_set, if_neg (by omega), List.take_set_of_le (by omega)]

/-! ### The effects of the rows, field by field -/

/-- R85, with the marker of R11 written out. -/
theorem start_fields (s : State) :
    start s = { s with buf := s.buf.set 0 0xFD#8, n := 1, st := .hdr } := rfl

/-- R88, R129: a restart is `Start` and the event, and no counter. -/
theorem takeError_restart_fields (s : State) :
    takeError .restart s =
      { s with buf := s.buf.set 0 0xFD#8, n := 1, st := .hdr, evCode := 6#3 } := rfl

/-- R93, R107: the end of a token, from the three bytes stored. -/
theorem resync_emitToken_fields (s : State) :
    resync (emitToken s) =
      { s with
        n := 0, st := .sync
        frmKind := 0#1
        frmDest := (bufAt s 1).extractLsb' 2 6, frmBcast := (bufAt s 1).extractLsb' 1 1
        frmSrc := (bufAt s 2).extractLsb' 2 6, frmSeq := (bufAt s 2).extractLsb' 0 2
        frmCmd := 0#4, frmLen := 0#4, frmPayload := List.replicate 15 0x00#8
        cntFrames := (s.cntFrames + 1) % 2 ^ s.params.cntW, evCode := 1#3 } := rfl

/-- R98, R105, R108: the end of a command frame that passed its check. -/
theorem resync_emitCommand_fields (s : State) :
    resync (emitCommand s) =
      { s with
        n := 0, st := .sync
        frmKind := 1#1
        frmDest := (bufAt s 1).extractLsb' 2 6, frmBcast := (bufAt s 1).extractLsb' 1 1
        frmSrc := (bufAt s 2).extractLsb' 2 6, frmSeq := (bufAt s 2).extractLsb' 0 2
        frmCmd := (bufAt s 3).extractLsb' 4 4, frmLen := (bufAt s 3).extractLsb' 0 4
        frmPayload := payloadBytes s
        cntFrames := (s.cntFrames + 1) % 2 ^ s.params.cntW, evCode := 2#3 } := rfl

/-- R98, R106: the end of a command frame that failed its check. -/
theorem resync_reportError_crcError_fields (s : State) :
    resync (reportError .crcError s) =
      { s with n := 0, st := .sync
               cntCrcErr := (s.cntCrcErr + 1) % 2 ^ s.params.cntW, evCode := 3#3 } := rfl

/-! ### SYNC (R86, R87) -/

theorem exec_syncMarker {s : State} (hst : s.st = .sync) : exec .syncMarker s = .next (start s) :=
  whenSelected_of hst

theorem symMarker_of_sync {s : State} (hst : s.st = .sync) : symMarker s = .next (start s) := by
  unfold symMarker
  rw [hst]
  exact exec_syncMarker hst

theorem exec_syncData {s : State} (hst : s.st = .sync) (d : Byte) :
    exec (.syncData d) s = .next s :=
  whenSelected_of hst

/-- R87: a DATA symbol does not leave SYNC. -/
theorem symData_keeps_sync {d : Byte} {s t : State} (h : symData d s = .next t)
    (hst : s.st = .sync) : t.st = .sync := by
  rw [symData_of_sync hst] at h
  cases h
  exact hst

/-- R86, R87: of the wire bytes only an unescaped 0xFD takes the reader out of SYNC. -/
theorem byte_eq_marker_of_leaves_sync {b : Byte} {s t : State} (h : exec (.byte b) s = .next t)
    (hst : s.st = .sync) (ht : t.st ≠ .sync) : b = Config.MARKER ∧ s.esc = false := by
  rcases execByte_next h with ⟨-, hdata⟩ | ⟨-, -, rfl⟩ | ⟨hesc, hb, -⟩ | ⟨-, -, -, hdata⟩
  · exact absurd (symData_keeps_sync hdata hst) ht
  · exact absurd hst ht
  · exact ⟨hb, hesc⟩
  · exact absurd (symData_keeps_sync hdata hst) ht

/-- R86: "This is the only transition out of SYNC.", over every input word. -/
theorem marker_of_stepOn_leaves_sync {w : InputWord} {s t : State} (hst : s.st = .sync)
    (h : stepOn w s = .next t) (ht : t.st ≠ .sync) :
    w.getLsbD 10 = false ∧ w.getLsbD 8 = true ∧ w.extractLsb' 0 8 = 0xFD#8 ∧ s.esc = false := by
  rw [stepOn_eq, decodeInput_eq] at h
  split_ifs at h with hrst hvalid
  · cases h
    exact absurd rfl ht
  · have hmarker := byte_eq_marker_of_leaves_sync h hst ht
    exact ⟨eq_false_of_ne_true hrst, hvalid, hmarker⟩
  · cases (exec_timeoutSync (s := { s with evCode := EV_NONE }) hst).symm.trans h
    exact absurd hst ht
  · cases h
    exact absurd hst ht

/-- Settles O33: in SYNC a marker runs `Start`, and every other step ends in SYNC again. -/
theorem syncMarkerStartsAFrame : Obligations.SyncMarkerStartsAFrame := by
  unfold Obligations.SyncMarkerStartsAFrame
  intro s hst
  rw [← start_fields]
  exact ⟨exec_syncMarker hst, symMarker_of_sync hst,
    fun _ _ h ht => marker_of_stepOn_leaves_sync hst h ht⟩

/-- Settles O34: the row and the dispatch to it both leave the state as it was. -/
theorem syncDataIsDiscarded : Obligations.SyncDataIsDiscarded := by
  unfold Obligations.SyncDataIsDiscarded
  intro s d hst
  exact ⟨exec_syncData hst d, symData_of_sync hst d⟩

/-! ### A marker mid-frame (R88) -/

/-- R88: under RESTART a MARKER symbol outside SYNC is the error of R129, whatever the state. -/
theorem symMarker_of_restart {s : State} (hst : s.st ≠ .sync) (hp : s.params.midMarker = .restart) :
    symMarker s = .next (takeError .restart s) := by
  unfold symMarker
  rw [hp]
  cases hq : s.st with
  | sync => exact absurd hq hst
  | hdr => exact whenSelected_of ⟨hq, hp⟩
  | pkt => exact whenSelected_of ⟨hq, hp⟩
  | crc => exact whenSelected_of ⟨hq, hp⟩

/-- Settles O35: the three rows and the dispatch to them take one error, EV_RESTART. -/
theorem midFrameMarkerRestarts : Obligations.MidFrameMarkerRestarts := by
  unfold Obligations.MidFrameMarkerRestarts
  intro s t hp ht
  rw [← takeError_restart_fields] at ht
  subst ht
  have hsym : s.st ≠ .sync → symMarker s = .next (takeError .restart s) :=
    fun hst => symMarker_of_restart hst hp
  refine ⟨fun hst => ⟨whenSelected_of ⟨hst, hp⟩, hsym ?_⟩,
    fun hst => ⟨whenSelected_of ⟨hst, hp⟩, hsym ?_⟩,
    fun hst => ⟨whenSelected_of ⟨hst, hp⟩, hsym ?_⟩⟩
  · simp [hst]
  · simp [hst]
  · simp [hst]

/-! ### The header bytes (R92-R94) -/

/-- Settles O38: with count 1 the dispatch picks HDR_DATA_HDR0, which stores and does no more. -/
theorem firstHeaderByteIsStored : Obligations.FirstHeaderByteIsStored := by
  unfold Obligations.FirstHeaderByteIsStored
  intro s d hst hn hcap
  have hroom : BufRoom s := by omega
  have hcount : s.n + 1 = 2 := by omega
  have hrow : exec (.hdrDataHdr0 d) s = .next (storeByte d s) :=
    whenSelected_of ⟨⟨hst, hroom⟩, hcount⟩
  rw [storeByte_of_count hn] at hrow
  have hdispatch : symData d s = exec (.hdrDataHdr0 d) s := by
    rw [symData_hdr_of_room hst hroom, if_pos hcount]
  exact ⟨hrow, hdispatch.trans hrow⟩

/-- R57, R90: with count 2 the type bit picks the row. -/
theorem symData_hdr_of_two {s : State} (hst : s.st = .hdr) (hn : s.n = 2) (hroom : BufRoom s)
    (d : Byte) :
    symData d s =
      if typeBit (storeByte d s) = 0#1 then exec (.hdrDataToken d) s
      else exec (.hdrDataCommand d) s := by
  rw [symData_hdr_of_room hst hroom, if_neg (by omega), if_pos (by omega)]

/-- Settles O39: the type bit lies below the stored byte, so the dispatch picks the row TOKEN, and
`EmitToken` reads hdr0 from the buffer and hdr1 from the byte just stored. -/
theorem secondHeaderByteCompletesAToken : Obligations.SecondHeaderByteCompletesAToken := by
  unfold Obligations.SecondHeaderByteCompletesAToken
  intro s t d hst hn hcap hlen hbit ht
  have hroom : BufRoom s := by omega
  have htype : typeBit (storeByte d s) = 0#1 := by
    rw [typeBit_storeByte (by omega), typeBit_eq_ofBool, hbit]
    rfl
  have hhdr0 : bufAt (storeByte d s) 1 = bufAt s 1 := bufAt_storeByte_ne (by omega)
  have hhdr1 : bufAt (storeByte d s) 2 = d := by
    rw [← hn]
    exact bufAt_storeByte_self (by omega)
  have hrow : exec (.hdrDataToken d) s = .next (resync (emitToken (storeByte d s))) :=
    whenSelected_of ⟨⟨hst, hroom⟩, congrArg (· + 1) hn, htype⟩
  rw [resync_emitToken_fields, hhdr0, hhdr1, storeByte_of_count hn] at hrow
  have hdispatch : symData d s = exec (.hdrDataToken d) s := by
    rw [symData_hdr_of_two hst hn hroom, if_pos htype]
  subst ht
  exact ⟨hrow, hdispatch.trans hrow⟩

/-- Settles O40: a set type bit picks HDR_DATA_COMMAND, which stores and enters PKT. -/
theorem secondHeaderByteOpensACommand : Obligations.SecondHeaderByteOpensACommand := by
  unfold Obligations.SecondHeaderByteOpensACommand
  intro s d hst hn hcap _ hbit
  have hroom : BufRoom s := by omega
  have htype : typeBit (storeByte d s) = 1#1 := by
    rw [typeBit_storeByte (by omega), typeBit_eq_ofBool, hbit]
    rfl
  have hrow : exec (.hdrDataCommand d) s = .next { storeByte d s with st := .pkt } :=
    whenSelected_of ⟨⟨hst, hroom⟩, congrArg (· + 1) hn, htype⟩
  rw [storeByte_of_count hn] at hrow
  have hdispatch : symData d s = exec (.hdrDataCommand d) s := by
    rw [symData_hdr_of_two hst hn hroom, if_neg (by simp [htype])]
  exact ⟨hrow, hdispatch.trans hrow⟩

/-! ### The packet bytes (R95, R96) -/

theorem exec_pktDataMore {d : Byte} {s : State} (hst : s.st = .pkt) (hroom : BufRoom s)
    (hmore : s.n + 1 < 4 + payloadLen (storeByte d s)) :
    exec (.pktDataMore d) s = .next (storeByte d s) :=
  whenSelected_of ⟨⟨hst, hroom⟩, hmore⟩

theorem exec_pktDataLast {d : Byte} {s : State} (hst : s.st = .pkt) (hroom : BufRoom s)
    (hlast : s.n + 1 = 4 + payloadLen (storeByte d s)) :
    exec (.pktDataLast d) s = .next { storeByte d s with st := .crc } :=
  whenSelected_of ⟨⟨hst, hroom⟩, hlast⟩

/-- Settles O41: `L` read after the store decides between the two rows, in the row's own condition
and in the dispatch alike. -/
theorem packetBytesAreStored : Obligations.PacketBytesAreStored := by
  unfold Obligations.PacketBytesAreStored
  intro s d l hst _ hroom hlen hl
  rw [← payloadLen_storeByte_eq_cmdlen (by omega)] at hl
  subst hl
  constructor
  · intro hmore
    have hrow := exec_pktDataMore hst hroom hmore
    have hdispatch : symData d s = exec (.pktDataMore d) s := by
      rw [symData_pkt_of_room hst hroom, if_pos hmore]
    exact ⟨hrow, hdispatch.trans hrow⟩
  · intro hlast
    have hrow := exec_pktDataLast hst hroom hlast
    have hdispatch : symData d s = exec (.pktDataLast d) s := by
      rw [symData_pkt_of_room hst hroom, if_neg hlast.not_lt, if_pos hlast]
    exact ⟨hrow, hdispatch.trans hrow⟩

/-! ### The CRC bytes (R97, R98) -/

/-- Settles O42: the store is past the cmdlen byte, so `L` stays what it was, and the dispatch picks
CRC_DATA_LOW, which stores and does no more. -/
theorem crcLowByteIsStored : Obligations.CrcLowByteIsStored := by
  unfold Obligations.CrcLowByteIsStored
  intro s d hst hn hroom
  have hcount : s.n + 1 = 5 + payloadLen (storeByte d s) := by
    rw [payloadLen_storeByte_of_ne (by omega), hn, Nat.add_right_comm]
    rfl
  have hrow : exec (.crcDataLow d) s = .next (storeByte d s) :=
    whenSelected_of ⟨⟨hst, hroom⟩, hcount⟩
  have hdispatch : symData d s = exec (.crcDataLow d) s := by
    rw [symData_crc_of_room hst hroom, if_pos hcount]
  exact ⟨hrow, hdispatch.trans hrow⟩

/-- R98: the row CRC_DATA_HIGH and the dispatch to it, with `L` read before the store. -/
theorem exec_and_symData_crcHigh {d : Byte} {s : State} (hst : s.st = .crc) (hroom : BufRoom s)
    (hn : s.n = 5 + payloadLen s) :
    exec (.crcDataHigh d) s = .next (resync (checkCrc (storeByte d s)))
    ∧ symData d s = .next (resync (checkCrc (storeByte d s))) := by
  have hL : payloadLen (storeByte d s) = payloadLen s := payloadLen_storeByte_of_ne (by omega)
  have hcount : s.n + 1 = 6 + payloadLen (storeByte d s) := by omega
  have hrow : exec (.crcDataHigh d) s = .next (resync (checkCrc (storeByte d s))) :=
    whenSelected_of ⟨⟨hst, hroom⟩, hcount⟩
  have hdispatch : symData d s = exec (.crcDataHigh d) s := by
    rw [symData_crc_of_room hst hroom, if_neg (by omega), if_pos hcount]
  exact ⟨hrow, hdispatch.trans hrow⟩

/-- Settles O43: the check runs over the stored frame, and each outcome of it is one effect followed
by `Resync`. -/
theorem crcHighByteCompletesACommand : Obligations.CrcHighByteCompletesACommand := by
  unfold Obligations.CrcHighByteCompletesACommand
  intro s d l checked hst hl hn hroom hlen hchecked
  change l = payloadLen s at hl
  subst hl
  have hlen' : s.n < s.buf.length := by omega
  rw [← checkedBytes_storeByte hn hlen'] at hchecked
  subst hchecked
  have hhigh := exec_and_symData_crcHigh (d := d) hst hroom hn
  unfold checkCrc remainder at hhigh
  constructor
  · rintro hpass t rfl
    have hhdr (i : Nat) (hi : i < 4) : bufAt (storeByte d s) i = bufAt s i :=
      bufAt_storeByte_ne (by omega)
    rw [if_pos hpass, resync_emitCommand_fields, payloadBytes_storeByte hn hlen', hhdr 1 (by omega),
      hhdr 2 (by omega), hhdr 3 (by omega)] at hhigh
    exact hhigh
  · rintro hfail t rfl
    rw [if_neg hfail, resync_reportError_crcError_fields] at hhigh
    exact hhigh

end Sys2Proof.Machine

namespace Sys2Proof.Machine

/-! ### What a step writes of the counters (R110-R113)

Beside the step's event a counter is written by `Inc` or not at all. -/

/-- The three counters hold the same in `t` as in `s`. -/
def SameCounters (s t : State) : Prop :=
  t.cntFrames = s.cntFrames ∧ t.cntIncomplete = s.cntIncomplete ∧ t.cntCrcErr = s.cntCrcErr

/-- What a step from `s` to `t` that abandons no frame by a timeout does to the counters, and with
which events: none is written, a frame is counted, or a CRC error is. -/
def Tally (s t : State) : Prop :=
  (SameCounters s t ∧ (t.evCode = EV_NONE ∨ t.evCode = EV_OVERFLOW ∨ t.evCode = EV_RESTART))
  ∨ (SameCounters (countFrame s) t ∧ (t.evCode = EV_TOKEN ∨ t.evCode = EV_COMMAND))
  ∨ (SameCounters (countCrcErr s) t ∧ t.evCode = EV_CRC_ERROR)

/-- The counter clauses of R110-R113: each counter against the event it counts. -/
def CountsItsEvents (s t : State) : Prop :=
  t.cntFrames = (if t.evCode = 1#3 ∨ t.evCode = 2#3
    then (s.cntFrames + 1) % 2 ^ s.params.cntW else s.cntFrames)
  ∧ t.cntIncomplete = (if t.evCode = 4#3
    then (s.cntIncomplete + 1) % 2 ^ s.params.cntW else s.cntIncomplete)
  ∧ t.cntCrcErr = (if t.evCode = 3#3
    then (s.cntCrcErr + 1) % 2 ^ s.params.cntW else s.cntCrcErr)

/-- The event of such a step tells which counter it wrote. -/
theorem countsItsEvents_of_tally {s t : State} (h : Tally s t) : CountsItsEvents s t := by
  rcases h with ⟨⟨hf, hi, hc⟩, hev | hev | hev⟩ | ⟨⟨hf, hi, hc⟩, hev | hev⟩ | ⟨⟨hf, hi, hc⟩, hev⟩
  · simp [CountsItsEvents, hf, hi, hc, hev, EV_NONE]
  · simp [CountsItsEvents, hf, hi, hc, hev, EV_OVERFLOW]
  · simp [CountsItsEvents, hf, hi, hc, hev, EV_RESTART]
  · simp [CountsItsEvents, hf, hi, hc, hev, EV_TOKEN, inc]
  · simp [CountsItsEvents, hf, hi, hc, hev, EV_COMMAND, inc]
  · simp [CountsItsEvents, hf, hi, hc, hev, EV_CRC_ERROR, inc]

/-- R112: no such step reports EV_INCOMPLETE. -/
theorem evCode_ne_incomplete_of_tally {s t : State} (h : Tally s t) : t.evCode ≠ 4#3 := by
  rcases h with ⟨-, hev | hev | hev⟩ | ⟨-, hev | hev⟩ | ⟨-, hev⟩ <;> rw [hev] <;> decide

/-- R104-R106: the check counts a frame or a CRC error, and reports which. -/
theorem tally_resync_checkCrc (s : State) : Tally s (resync (checkCrc s)) := by
  unfold checkCrc
  split_ifs
  · exact .inr (.inl ⟨⟨rfl, rfl, rfl⟩, .inr rfl⟩)
  · exact .inr (.inr ⟨⟨rfl, rfl, rfl⟩, rfl⟩)

/-- R87, R90-R98: among the rows of a DATA symbol only the end of a frame writes a counter. -/
theorem tally_of_symData {d : Byte} {s t : State} (hev : s.evCode = EV_NONE)
    (h : symData d s = .next t) : Tally s t := by
  rcases symData_next h with ⟨-, rfl⟩ | ⟨-, -, rfl⟩ | ⟨-, -, -, rfl⟩ | ⟨-, -, -, -, rfl⟩ |
    ⟨-, -, -, -, rfl⟩ | ⟨-, -, -, rfl⟩ | ⟨-, -, -, rfl⟩ | ⟨-, -, -, rfl⟩ | ⟨-, -, -, rfl⟩
  · exact .inl ⟨⟨rfl, rfl, rfl⟩, .inl hev⟩
  · exact .inl ⟨⟨rfl, rfl, rfl⟩, .inr (.inl rfl)⟩
  · exact .inl ⟨⟨rfl, rfl, rfl⟩, .inl hev⟩
  · exact .inr (.inl ⟨⟨rfl, rfl, rfl⟩, .inl rfl⟩)
  · exact .inl ⟨⟨rfl, rfl, rfl⟩, .inl hev⟩
  · exact .inl ⟨⟨rfl, rfl, rfl⟩, .inl hev⟩
  · exact .inl ⟨⟨rfl, rfl, rfl⟩, .inl hev⟩
  · exact .inl ⟨⟨rfl, rfl, rfl⟩, .inl hev⟩
  · exact tally_resync_checkCrc (storeByte d s)

/-- R86, R88, R89: a MARKER symbol starts a frame, restarts one, or is data. -/
theorem tally_of_symMarker {s t : State} (hev : s.evCode = EV_NONE)
    (h : symMarker s = .next t) : Tally s t := by
  rcases symMarker_next h with ⟨-, rfl⟩ | ⟨-, -, rfl⟩ | ⟨-, -, hdata⟩
  · exact .inl ⟨⟨rfl, rfl, rfl⟩, .inl hev⟩
  · exact .inl ⟨⟨rfl, rfl, rfl⟩, .inr (.inr rfl)⟩
  · exact tally_of_symData hev hdata

/-- R77-R81: a wire byte does to the counters what its symbol does; `esc` is no part of that. -/
theorem tally_of_execByte {b : Byte} {s t : State} (hev : s.evCode = EV_NONE)
    (h : execByte b s = .next t) : Tally s t := by
  rcases execByte_next h with ⟨-, hdata⟩ | ⟨-, -, rfl⟩ | ⟨-, -, hmarker⟩ | ⟨-, -, -, hdata⟩
  · exact tally_of_symData (s := { s with esc := false }) hev hdata
  · exact .inl ⟨⟨rfl, rfl, rfl⟩, .inl hev⟩
  · exact tally_of_symMarker hev hmarker
  · exact tally_of_symData hev hdata

/-- R54: no word without `rst` selects RESET. -/
theorem decodeInput_ne_reset {w : InputWord} (hrst : w.getLsbD 10 = false) (st : Fsm) :
    decodeInput st w ≠ .reset := by
  simp only [decodeInput_eq, hrst, Bool.false_eq_true, if_false]
  split_ifs <;> simp

/-- R112: a word without `rst` counts its events, and reports EV_INCOMPLETE exactly when it selects
TIMEOUT mid-frame. The prologue of R72 has cleared `ev_code`, so every event is the step's own. -/
theorem countsItsEvents_of_stepOn {s t : State} {w : InputWord} (hrst : w.getLsbD 10 = false)
    (h : stepOn w s = .next t) :
    CountsItsEvents s t ∧ (t.evCode = 4#3 ↔ decodeInput s.st w = .timeoutMidframe) := by
  have of_tally {i : Instr} (hi : i ≠ .timeoutMidframe) (htally : Tally s t) :
      CountsItsEvents s t ∧ (t.evCode = 4#3 ↔ i = .timeoutMidframe) :=
    ⟨countsItsEvents_of_tally htally, iff_of_false (evCode_ne_incomplete_of_tally htally) hi⟩
  rw [stepOn_eq] at h
  rcases decodeInput_cases s.st w with hw | hw | ⟨hst, hw⟩ | ⟨hst, hw⟩ | hw <;> rw [hw] at h ⊢
  · exact absurd hw (decodeInput_ne_reset hrst s.st)
  · exact of_tally (by simp) (tally_of_execByte (s := { s with evCode := EV_NONE }) rfl h)
  · cases (exec_timeoutMidframe (s := { s with evCode := EV_NONE }) hst).symm.trans h
    simp [CountsItsEvents]
  · cases (exec_timeoutSync (s := { s with evCode := EV_NONE }) hst).symm.trans h
    exact of_tally (by simp) (.inl ⟨⟨rfl, rfl, rfl⟩, .inl rfl⟩)
  · cases h
    exact of_tally (by simp) (.inl ⟨⟨rfl, rfl, rfl⟩, .inl rfl⟩)

/-- Settles O52: by the row the word selects; a byte writes a counter only where a frame ends. -/
theorem countersCountTheirEvents : Obligations.CountersCountTheirEvents := by
  unfold Obligations.CountersCountTheirEvents
  intro s t w hrst h
  obtain ⟨⟨hframes, hincomplete, hcrc⟩, htimeout⟩ := countsItsEvents_of_stepOn hrst h
  exact ⟨hframes, hincomplete, hcrc, htimeout⟩

/-! ### Counter values steer nothing (R114)

A meaning is built of tests, effects and dispatches. No test reads a counter and no effect carries a
counter's value elsewhere, so no meaning does either. -/

/-- The meaning `f` goes on from other counter values to the same state but for the counters. -/
def CounterBlind (f : State → Result) : Prop :=
  ∀ (s t : State) (a b c : Nat), f s = .next t →
    ∃ a' b' c', f (withCounters a b c s) = .next (withCounters a' b' c' t)

/-- The test `p` reads no counter. -/
def CounterBlindTest (p : State → Prop) : Prop :=
  ∀ (s : State) (a b c : Nat), p (withCounters a b c s) ↔ p s

/-- The effect `e` writes the same whatever the counters hold, but for the counters. -/
def CounterBlindEffect (e : State → State) : Prop :=
  ∀ (s : State) (a b c : Nat), ∃ a' b' c', e (withCounters a b c s) = withCounters a' b' c' (e s)

theorem CounterBlind.next {e : State → State} (he : CounterBlindEffect e) :
    CounterBlind (fun s => .next (e s)) := by
  intro s t a b c h
  cases h
  obtain ⟨a', b', c', heq⟩ := he s a b c
  exact ⟨a', b', c', congrArg _ heq⟩

theorem CounterBlind.fault (r : Fault) : CounterBlind (fun _ => .fault r) := by
  intro s t a b c h
  cases h

theorem CounterBlind.ite {p : State → Prop} {hp : ∀ s, Decidable (p s)} {f g : State → Result}
    (hblind : CounterBlindTest p) (hf : CounterBlind f) (hg : CounterBlind g) :
    CounterBlind (fun s => if p s then f s else g s) := by
  intro s t a b c h
  by_cases hs : p s
  · simp only [if_pos hs] at h
    simp only [if_pos ((hblind s a b c).2 hs)]
    exact hf s t a b c h
  · simp only [if_neg hs] at h
    simp only [if_neg (mt (hblind s a b c).1 hs)]
    exact hg s t a b c h

theorem CounterBlind.whenSelected {p : State → Prop} {hp : ∀ s, Decidable (p s)}
    {e : State → State} (hblind : CounterBlindTest p) (he : CounterBlindEffect e) :
    CounterBlind (fun s => Machine.whenSelected (p s) (e s)) :=
  .ite hblind (.next he) (.fault _)

theorem CounterBlindEffect.ite {p : State → Prop} {hp : ∀ s, Decidable (p s)} {e g : State → State}
    (hblind : CounterBlindTest p) (he : CounterBlindEffect e) (hg : CounterBlindEffect g) :
    CounterBlindEffect (fun s => if p s then e s else g s) := by
  intro s a b c
  by_cases hs : p s
  · simp only [if_pos hs, if_pos ((hblind s a b c).2 hs)]
    exact he s a b c
  · simp only [if_neg hs, if_neg (mt (hblind s a b c).1 hs)]
    exact hg s a b c

/-- A meaning after an effect. -/
theorem CounterBlind.comp {f : State → Result} {e : State → State} (hf : CounterBlind f)
    (he : CounterBlindEffect e) : CounterBlind (fun s => f (e s)) := by
  intro s t a b c h
  obtain ⟨a₁, b₁, c₁, heq⟩ := he s a b c
  simp only [heq]
  exact hf (e s) t a₁ b₁ c₁ h

/-- A dispatch on the FSM state, which is no counter. -/
theorem CounterBlind.of_st {f : State → Result}
    (hf : ∀ q, ∃ g, CounterBlind g ∧ ∀ s, s.st = q → f s = g s) : CounterBlind f := by
  intro s t a b c h
  obtain ⟨g, hg, hfg⟩ := hf s.st
  rw [hfg s rfl] at h
  rw [hfg (withCounters a b c s) rfl]
  exact hg s t a b c h

/-- R104: the check reads the buffer and a parameter. -/
theorem counterBlindEffect_checkCrc : CounterBlindEffect checkCrc :=
  .ite (fun _ _ _ _ => Iff.rfl) (fun _ _ _ _ => ⟨_, _, _, rfl⟩) (fun _ _ _ _ => ⟨_, _, _, rfl⟩)

/-- R98: store, check, resynchronize. -/
theorem counterBlindEffect_crcHigh (d : Byte) :
    CounterBlindEffect (fun s => resync (checkCrc (storeByte d s))) := by
  intro s a b c
  obtain ⟨a', b', c', heq⟩ := counterBlindEffect_checkCrc (storeByte d s) a b c
  exact ⟨a', b', c', congrArg resync heq⟩

/-- R90, R91: what the three states that store have in common; `rest` is what follows when there is
room. -/
theorem CounterBlind.ofRoom {q : Fsm} {rest : State → Result} (hrest : CounterBlind rest) :
    CounterBlind (fun s =>
      if BufFull s then Machine.whenSelected (s.st = q ∧ BufFull s) (takeError .overflow s)
      else if ¬BufRoom s then .fault .undefinedState
      else rest s) :=
  .ite (fun _ _ _ _ => Iff.rfl)
    (.whenSelected (fun _ _ _ _ => Iff.rfl) (fun _ _ _ _ => ⟨_, _, _, rfl⟩)) <|
  .ite (fun _ _ _ _ => Iff.rfl) (.fault _) hrest

/-- R92-R94: the rows of HDR, by the count and the type bit. -/
theorem counterBlind_hdrData (d : Byte) : CounterBlind (hdrData d) :=
  .ofRoom <|
  .ite (fun _ _ _ _ => Iff.rfl)
    (.whenSelected (fun _ _ _ _ => Iff.rfl) (fun _ _ _ _ => ⟨_, _, _, rfl⟩)) <|
  .ite (fun _ _ _ _ => Iff.rfl)
    (.ite (fun _ _ _ _ => Iff.rfl)
      (.whenSelected (fun _ _ _ _ => Iff.rfl) (fun _ _ _ _ => ⟨_, _, _, rfl⟩))
      (.whenSelected (fun _ _ _ _ => Iff.rfl) (fun _ _ _ _ => ⟨_, _, _, rfl⟩)))
    (.fault _)

/-- R95, R96: the rows of PKT, by the count and `L`. -/
theorem counterBlind_pktData (d : Byte) : CounterBlind (pktData d) :=
  .ofRoom <|
  .ite (fun _ _ _ _ => Iff.rfl)
    (.whenSelected (fun _ _ _ _ => Iff.rfl) (fun _ _ _ _ => ⟨_, _, _, rfl⟩)) <|
  .ite (fun _ _ _ _ => Iff.rfl)
    (.whenSelected (fun _ _ _ _ => Iff.rfl) (fun _ _ _ _ => ⟨_, _, _, rfl⟩))
    (.fault _)

/-- R97, R98: the rows of CRC, by the count and `L`. -/
theorem counterBlind_crcData (d : Byte) : CounterBlind (crcData d) :=
  .ofRoom <|
  .ite (fun _ _ _ _ => Iff.rfl)
    (.whenSelected (fun _ _ _ _ => Iff.rfl) (fun _ _ _ _ => ⟨_, _, _, rfl⟩)) <|
  .ite (fun _ _ _ _ => Iff.rfl)
    (.whenSelected (fun _ _ _ _ => Iff.rfl) (counterBlindEffect_crcHigh d))
    (.fault _)

/-- R57, R87: a DATA symbol runs the rows of its state. -/
theorem counterBlind_symData (d : Byte) : CounterBlind (symData d) := by
  refine .of_st fun q => ?_
  cases q with
  | sync => exact ⟨.next, .next fun _ _ _ _ => ⟨_, _, _, rfl⟩, fun _ hst => symData_of_sync hst d⟩
  | hdr => exact ⟨hdrData d, counterBlind_hdrData d, fun _ hst => by simp only [symData, hst]⟩
  | pkt => exact ⟨pktData d, counterBlind_pktData d, fun _ hst => by simp only [symData, hst]⟩
  | crc => exact ⟨crcData d, counterBlind_crcData d, fun _ hst => by simp only [symData, hst]⟩

/-- R89: under DATA a MARKER symbol outside SYNC is the data byte 0xFD, whatever the state. -/
theorem symMarker_of_data {s : State} (hst : s.st ≠ .sync) (hp : s.params.midMarker = .data) :
    symMarker s = symData Config.MARKER s := by
  unfold symMarker
  rw [hp]
  cases hq : s.st with
  | sync => exact absurd hq hst
  | hdr => exact if_pos ⟨hq, hp⟩
  | pkt => exact if_pos ⟨hq, hp⟩
  | crc => exact if_pos ⟨hq, hp⟩

/-- R88, R89: outside SYNC the policy alone decides what a MARKER symbol does. -/
theorem symMarker_of_ne_sync {s : State} (hst : s.st ≠ .sync) :
    symMarker s = if s.params.midMarker = .restart then .next (takeError .restart s)
      else symData Config.MARKER s := by
  cases hp : s.params.midMarker with
  | restart => exact symMarker_of_restart hst hp
  | data => exact symMarker_of_data hst hp

/-- R86, R88, R89: a MARKER symbol runs the row of its state and of the policy. -/
theorem counterBlind_symMarker : CounterBlind symMarker := by
  refine .of_st fun q => ?_
  by_cases hq : q = .sync
  · exact ⟨fun s => .next (start s), .next fun _ _ _ _ => ⟨_, _, _, rfl⟩,
      fun _ hst => symMarker_of_sync (hst.trans hq)⟩
  · exact ⟨_, .ite (fun _ _ _ _ => Iff.rfl) (.next fun _ _ _ _ => ⟨_, _, _, rfl⟩)
      (counterBlind_symData Config.MARKER), fun _ hst => symMarker_of_ne_sync (hst ▸ hq)⟩

/-- R77-R81. -/
theorem counterBlind_execByte (b : Byte) : CounterBlind (execByte b) :=
  .ite (fun _ _ _ _ => Iff.rfl)
    (.ite (fun _ _ _ _ => Iff.rfl)
      (.comp (counterBlind_symData _) fun _ _ _ _ => ⟨_, _, _, rfl⟩) (.fault _)) <|
  .ite (fun _ _ _ _ => Iff.rfl)
    (.whenSelected (fun _ _ _ _ => Iff.rfl) (fun _ _ _ _ => ⟨_, _, _, rfl⟩)) <|
  .ite (fun _ _ _ _ => Iff.rfl)
    (.ite (fun _ _ _ _ => Iff.rfl) counterBlind_symMarker (.fault _))
    (.ite (fun _ _ _ _ => Iff.rfl) (counterBlind_symData b) (.fault _))

/-- R73-R77: the five operations an input word can select. -/
theorem counterBlind_exec_decodeInput (q : Fsm) (w : InputWord) :
    CounterBlind (exec (decodeInput q w)) := by
  rcases decodeInput_cases q w with hw | hw | ⟨-, hw⟩ | ⟨-, hw⟩ | hw <;> rw [hw]
  · exact .next fun _ _ _ _ => ⟨_, _, _, rfl⟩
  · exact counterBlind_execByte _
  · exact .next <|
      .ite (fun _ _ _ _ => Iff.rfl) (fun _ _ _ _ => ⟨_, _, _, rfl⟩) (fun _ _ _ _ => ⟨_, _, _, rfl⟩)
  · exact .next <|
      .ite (fun _ _ _ _ => Iff.rfl) (fun _ _ _ _ => ⟨_, _, _, rfl⟩) (fun _ _ _ _ => ⟨_, _, _, rfl⟩)
  · exact .next fun _ _ _ _ => ⟨_, _, _, rfl⟩

/-- R14, R72: the step is the selected operation after the prologue. -/
theorem counterBlind_stepOn (w : InputWord) : CounterBlind (stepOn w) :=
  .of_st fun q => ⟨fun s => exec (decodeInput q w) { s with evCode := EV_NONE },
    .comp (counterBlind_exec_decodeInput q w) fun _ _ _ _ => ⟨_, _, _, rfl⟩,
    fun s hst => by subst hst; exact stepOn_eq w s⟩

/-- Settles O53: a step is blind to the counters, by the tests and effects it is built of. -/
theorem countersNeverSteer : Obligations.CountersNeverSteer := by
  unfold Obligations.CountersNeverSteer
  intro s t w a b c h
  exact counterBlind_stepOn w s t a b c h

end Sys2Proof.Machine

namespace Sys2Proof.Machine

/-! ### Holding `rst` high (R143) -/

/-- A state that every word of a feed maps to itself is where the feed ends. -/
theorem feed_of_stepOn_self {t : State} {ws : List InputWord}
    (hself : ∀ w ∈ ws, stepOn w t = .next t) : feed ws t = .next t := by
  induction ws with
  | nil => exact feed_nil t
  | cons w ws ih =>
    obtain ⟨hw, hws⟩ := List.forall_mem_cons.mp hself
    exact (feed_cons_of hw ws).trans (ih hws)

/-- R143: RESET keeps the parameters and the inputs, which are all it reads, so a further step with
`rst` high leaves its result as it is. -/
theorem stepOn_resetState_of_rst {w : InputWord} (hrst : w.getLsbD 10 = true) (s : State) :
    stepOn w { State.resetWith s.params with inputs := s.inputs }
      = .next { State.resetWith s.params with inputs := s.inputs } :=
  stepOn_of_rst hrst _

/-- Settles O20: the first word resets the block, and every further word repeats that result. -/
theorem heldResetRepeats : Obligations.HeldResetRepeats := by
  unfold Obligations.HeldResetRepeats
  intro s ws hne hrst
  cases ws with
  | nil => exact absurd rfl hne
  | cons w ws =>
    obtain ⟨hw, hws⟩ := List.forall_mem_cons.mp hrst
    rw [feed_cons_of (stepOn_of_rst hw s)]
    exact feed_of_stepOn_self fun v hv => stepOn_resetState_of_rst (hws v hv) s

end Sys2Proof.Machine

namespace Sys2Proof.Machine

/-! ### What a DATA symbol does, as a relation (R57, R87, R90-R98)

One case for each row of the opcode table, the three overflow rows being one. -/

/-- A DATA symbol `d` takes the state `s` to the next state given. -/
inductive DataStep (d : Byte) (s : State) : State → Prop where
  | discard (hst : s.st = .sync) : DataStep d s s
  | overflow (hst : s.st ≠ .sync) (hfull : BufFull s) : DataStep d s (takeError .overflow s)
  | hdr0 (hst : s.st = .hdr) (hroom : BufRoom s) (hn : s.n = 1) : DataStep d s (storeByte d s)
  | token (hst : s.st = .hdr) (hroom : BufRoom s) (hn : s.n = 2) (htype : typeBit s = 0#1) :
      DataStep d s (resync (emitToken (storeByte d s)))
  | command (hst : s.st = .hdr) (hroom : BufRoom s) (hn : s.n = 2) (htype : typeBit s = 1#1) :
      DataStep d s { storeByte d s with st := .pkt }
  | pktMore (hst : s.st = .pkt) (hroom : BufRoom s)
      (hn : s.n + 1 < 4 + payloadLen (storeByte d s)) : DataStep d s (storeByte d s)
  | pktLast (hst : s.st = .pkt) (hroom : BufRoom s)
      (hn : s.n + 1 = 4 + payloadLen (storeByte d s)) :
      DataStep d s { storeByte d s with st := .crc }
  | crcLow (hst : s.st = .crc) (hroom : BufRoom s)
      (hn : s.n + 1 = 5 + payloadLen (storeByte d s)) : DataStep d s (storeByte d s)
  | crcHigh (hst : s.st = .crc) (hroom : BufRoom s)
      (hn : s.n + 1 = 6 + payloadLen (storeByte d s)) :
      DataStep d s (resync (checkCrc (storeByte d s)))

/-- R91: the overflow check comes before every other, in each state that stores. -/
theorem symData_of_full {s : State} (hst : s.st ≠ .sync) (hfull : BufFull s) (d : Byte) :
    symData d s = .next (takeError .overflow s) := by
  unfold symData
  cases hq : s.st with
  | sync => exact absurd hq hst
  | hdr => exact (if_pos hfull).trans (whenSelected_of ⟨hq, hfull⟩)
  | pkt => exact (if_pos hfull).trans (whenSelected_of ⟨hq, hfull⟩)
  | crc => exact (if_pos hfull).trans (whenSelected_of ⟨hq, hfull⟩)

/-- The relation is what `symData` computes. -/
theorem symData_eq_next_iff {d : Byte} {s t : State} : symData d s = .next t ↔ DataStep d s t := by
  constructor
  · intro h
    rcases symData_next h with ⟨hst, rfl⟩ | ⟨hst, hfull, rfl⟩ | ⟨hst, hroom, hn, rfl⟩ |
      ⟨hst, hroom, hn, htype, rfl⟩ | ⟨hst, hroom, hn, htype, rfl⟩ | ⟨hst, hroom, hn, rfl⟩ |
      ⟨hst, hroom, hn, rfl⟩ | ⟨hst, hroom, hn, rfl⟩ | ⟨hst, hroom, hn, rfl⟩
    · exact .discard hst
    · exact .overflow hst hfull
    · exact .hdr0 hst hroom hn
    · exact .token hst hroom hn htype
    · exact .command hst hroom hn htype
    · exact .pktMore hst hroom hn
    · exact .pktLast hst hroom hn
    · exact .crcLow hst hroom hn
    · exact .crcHigh hst hroom hn
  · intro h
    cases h with
    | discard hst => exact symData_of_sync hst d
    | overflow hst hfull => exact symData_of_full hst hfull d
    | hdr0 hst hroom hn =>
      rw [symData_hdr_of_room hst hroom, if_pos (by omega)]
      exact whenSelected_of ⟨⟨hst, hroom⟩, congrArg (· + 1) hn⟩
    | token hst hroom hn htype =>
      rw [← typeBit_storeByte (d := d) (by omega)] at htype
      rw [symData_hdr_of_two hst hn hroom, if_pos htype]
      exact whenSelected_of ⟨⟨hst, hroom⟩, congrArg (· + 1) hn, htype⟩
    | command hst hroom hn htype =>
      rw [← typeBit_storeByte (d := d) (by omega)] at htype
      rw [symData_hdr_of_two hst hn hroom, if_neg (by simp [htype])]
      exact whenSelected_of ⟨⟨hst, hroom⟩, congrArg (· + 1) hn, htype⟩
    | pktMore hst hroom hn =>
      rw [symData_pkt_of_room hst hroom, if_pos hn]
      exact exec_pktDataMore hst hroom hn
    | pktLast hst hroom hn =>
      rw [symData_pkt_of_room hst hroom, if_neg hn.not_lt, if_pos hn]
      exact exec_pktDataLast hst hroom hn
    | crcLow hst hroom hn =>
      rw [symData_crc_of_room hst hroom, if_pos hn]
      exact whenSelected_of ⟨⟨hst, hroom⟩, hn⟩
    | crcHigh hst hroom hn =>
      rw [symData_crc_of_room hst hroom, if_neg (by omega), if_pos hn]
      exact whenSelected_of ⟨⟨hst, hroom⟩, hn⟩

/-! ### R23 by the phase of the frame -/

/-- The clauses of R23 on the count: those a state of the FSM admits, with payload length `l`. -/
def PhaseFits (q : Fsm) (n l : Nat) : Prop :=
  match q with
  | .sync => n = 0
  | .hdr => n = 1 ∨ n = 2
  | .pkt => n = 3 ∨ (4 ≤ n ∧ n ≤ 3 + l)
  | .crc => n = 4 + l ∨ n = 5 + l

theorem countsAgree_iff {s : State} :
    CountsAgree s ↔ PhaseFits s.st s.n (payloadLen s) ∧ (1 ≤ s.n → bufAt s 0 = 0xFD#8)
      ∧ s.n ≤ s.params.rxBufBytes := by
  unfold CountsAgree PhaseFits
  cases s.st with
  | sync => simp
  | hdr => grind
  | pkt => grind
  | crc => grind

/-- R23: outside SYNC the count is not zero. -/
theorem one_le_of_phaseFits {q : Fsm} {n l : Nat} (h : PhaseFits q n l) (hq : q ≠ .sync) :
    1 ≤ n := by
  cases q with
  | sync => exact absurd rfl hq
  | hdr => change n = 1 ∨ n = 2 at h; omega
  | pkt => change n = 3 ∨ (4 ≤ n ∧ n ≤ 3 + l) at h; omega
  | crc => change n = 4 + l ∨ n = 5 + l at h; omega

/-- R23: no count reaches the 21 bytes of the longest frame. -/
theorem le_twenty_of_phaseFits {q : Fsm} {n l : Nat} (h : PhaseFits q n l) (hl : l ≤ 15) :
    n ≤ 20 := by
  cases q with
  | sync => change n = 0 at h; omega
  | hdr => change n = 1 ∨ n = 2 at h; omega
  | pkt => change n = 3 ∨ (4 ≤ n ∧ n ≤ 3 + l) at h; omega
  | crc => change n = 4 + l ∨ n = 5 + l at h; omega

/-- In PKT the count after the store stays within the payload, `L` read after the store (R95). -/
theorem count_le_of_pkt {s : State} (h : PhaseFits .pkt s.n (payloadLen s)) (d : Byte) :
    s.n + 1 ≤ 4 + payloadLen (storeByte d s) := by
  change s.n = 3 ∨ (4 ≤ s.n ∧ s.n ≤ 3 + payloadLen s) at h
  by_cases h3 : s.n = 3
  · omega
  · rw [payloadLen_storeByte_of_ne h3]
    omega

/-! ### Every symbol and every byte completes where R23 holds (R130) -/

/-- R130: where R23 holds, some row takes every DATA symbol. -/
theorem exists_dataStep {s : State} (h : CountsAgree s) (d : Byte) : ∃ t, DataStep d s t := by
  obtain ⟨hphase, -, hle⟩ := countsAgree_iff.mp h
  cases hst : s.st with
  | sync => exact ⟨_, .discard hst⟩
  | hdr =>
    rcases Nat.eq_or_lt_of_le hle with hfull | hroom
    · exact ⟨_, .overflow (by simp [hst]) hfull⟩
    · rw [hst] at hphase
      rcases hphase with hn | hn
      · exact ⟨_, .hdr0 hst hroom hn⟩
      · by_cases htype : typeBit s = 0#1
        · exact ⟨_, .token hst hroom hn htype⟩
        · exact ⟨_, .command hst hroom hn (typeBit_eq_one_of_ne_zero htype)⟩
  | pkt =>
    rcases Nat.eq_or_lt_of_le hle with hfull | hroom
    · exact ⟨_, .overflow (by simp [hst]) hfull⟩
    · rw [hst] at hphase
      rcases Nat.eq_or_lt_of_le (count_le_of_pkt hphase d) with hlast | hmore
      · exact ⟨_, .pktLast hst hroom hlast⟩
      · exact ⟨_, .pktMore hst hroom hmore⟩
  | crc =>
    rcases Nat.eq_or_lt_of_le hle with hfull | hroom
    · exact ⟨_, .overflow (by simp [hst]) hfull⟩
    · rw [hst] at hphase
      change s.n = 4 + payloadLen s ∨ s.n = 5 + payloadLen s at hphase
      have hL : payloadLen (storeByte d s) = payloadLen s := payloadLen_storeByte_of_ne (by omega)
      rcases hphase with hn | hn
      · exact ⟨_, .crcLow hst hroom (by omega)⟩
      · exact ⟨_, .crcHigh hst hroom (by omega)⟩

theorem symData_goesOn {s : State} (h : CountsAgree s) (d : Byte) : ∃ t, symData d s = .next t := by
  obtain ⟨t, ht⟩ := exists_dataStep h d
  exact ⟨t, symData_eq_next_iff.mpr ht⟩

end Sys2Proof.Machine

namespace Sys2Proof.Machine

/-! ### A BYTE by its symbol (R77-R82) -/

/-- What a symbol, or no symbol, does to the reader (R57). -/
def runSymbol : Option Symbol → State → Result
  | none, s => .next s
  | some (.data d), s => symData d s
  | some .marker, s => symMarker s

/-- R82: a BYTE writes the classifier's escape flag and performs the classifier's symbol. -/
theorem exec_byte_eq_runSymbol (b : Byte) (s : State) :
    exec (.byte b) s = runSymbol (classify s.esc b).1 { s with esc := (classify s.esc b).2 } := by
  change execByte b s = _
  unfold execByte classify
  split_ifs with hesc hescape hmarker
  · exact if_pos hesc
  · exact whenSelected_of (eq_false_of_ne_true hesc)
  · have hesc' : s.esc = false := eq_false_of_ne_true hesc
    have hself : { s with esc := false } = s := by rw [← hesc']
    change execMarker s = symMarker { s with esc := false }
    rw [hself]
    exact if_pos hesc'
  · have hesc' : s.esc = false := eq_false_of_ne_true hesc
    have hself : { s with esc := false } = s := by rw [← hesc']
    change execDataPlain b s = symData b { s with esc := false }
    rw [hself]
    exact if_pos ⟨hesc', hescape, hmarker⟩

/-- R78-R81: the escape flag after a byte. -/
theorem classify_flag (e : Bool) (b : Byte) : (classify e b).2 = (!e && b == 0xFC#8) := by
  change _ = (!e && b == Config.ESCAPE)
  cases e with
  | true => rfl
  | false =>
    unfold classify
    by_cases hescape : b = Config.ESCAPE
    · simp [hescape]
    · by_cases hmarker : b = Config.MARKER
      · simp [hmarker, Config.MARKER, Config.ESCAPE]
      · simp [hescape, hmarker]

/-- R78-R81: a byte that gives a symbol leaves no escape pending. -/
theorem classify_flag_of_symbol {e : Bool} {b : Byte} (h : (classify e b).1 ≠ none) :
    (classify e b).2 = false := by
  unfold classify at h ⊢
  split_ifs at h ⊢ with hesc hescape
  · rfl
  · exact absurd rfl h
  · rfl
  · rfl

/-! ### What a symbol and a step can do -/

/-- What a wire byte can do beside the escape flag: nothing, or what its symbol does with no escape
pending. -/
inductive SymbolEffect (s : State) : State → Prop where
  | quiet : SymbolEffect s s
  | start (hesc : s.esc = false) (hst : s.st = .sync) : SymbolEffect s (start s)
  | restart (hesc : s.esc = false) (hst : s.st ≠ .sync) (hp : s.params.midMarker = .restart) :
      SymbolEffect s (takeError .restart s)
  | data {t : State} (hesc : s.esc = false) (d : Byte) (h : DataStep d s t) : SymbolEffect s t

theorem symbolEffect_of_runSymbol {o : Option Symbol} {s t : State}
    (hesc : o ≠ none → s.esc = false) (h : runSymbol o s = .next t) : SymbolEffect s t := by
  rcases o with - | d | -
  · cases h
    exact .quiet
  · exact .data (hesc (by simp)) d (symData_eq_next_iff.mp h)
  · have hesc := hesc (by simp)
    rcases symMarker_next h with ⟨hst, rfl⟩ | ⟨hst, hp, rfl⟩ | ⟨-, -, hdata⟩
    · exact .start hesc hst
    · exact .restart hesc hst hp
    · exact .data hesc _ (symData_eq_next_iff.mp hdata)

theorem symbolEffect_of_exec_byte {b : Byte} {s t : State} (h : exec (.byte b) s = .next t) :
    SymbolEffect { s with esc := (classify s.esc b).2 } t := by
  rw [exec_byte_eq_runSymbol] at h
  exact symbolEffect_of_runSymbol classify_flag_of_symbol h

/-- Everything a step can do when it goes on (R54, R73-R77): IDLE and TIMEOUT in SYNC write no more
than the prologue's `ev_code` and the escape flag, so they stand beside the bytes without a symbol.
-/
inductive StepEffect (w : InputWord) (s : State) : State → Prop where
  | reset (hrst : w.getLsbD 10 = true) :
      StepEffect w s { State.resetWith s.params with inputs := s.inputs }
  | timeout (hrst : w.getLsbD 10 = false) (hst : s.st ≠ .sync) :
      StepEffect w s (takeError .incomplete s)
  | symbol {t : State} (hrst : w.getLsbD 10 = false) (e : Bool)
      (h : SymbolEffect { s with evCode := EV_NONE, esc := e } t) : StepEffect w s t

theorem stepEffect_of_stepOn {w : InputWord} {s t : State} (h : stepOn w s = .next t) :
    StepEffect w s t := by
  rw [stepOn_eq, decodeInput_eq] at h
  split_ifs at h with hrst hvalid htimeout hst
  · cases h
    exact .reset hrst
  · exact .symbol (eq_false_of_ne_true hrst) _ (symbolEffect_of_exec_byte h)
  · cases (exec_timeoutSync (s := { s with evCode := EV_NONE }) hst).symm.trans h
    exact .symbol (eq_false_of_ne_true hrst) false .quiet
  · cases (exec_timeoutMidframe (s := { s with evCode := EV_NONE }) hst).symm.trans h
    exact .timeout (eq_false_of_ne_true hrst) hst
  · cases h
    exact .symbol (eq_false_of_ne_true hrst) s.esc .quiet

/-- R14: a step is the step on the sampled word, that word used up. -/
theorem step_eq_stepOn (s : State) :
    step s = stepOn (inputWord s) { s with inputs := s.inputs.tail } := rfl

theorem stepEffect_of_step {s t : State} (h : step s = .next t) :
    StepEffect (inputWord s) { s with inputs := s.inputs.tail } t :=
  stepEffect_of_stepOn (step_eq_stepOn s ▸ h)

/-- R104: the check ends in one of its two outcomes. -/
theorem checkCrc_cases (s : State) :
    checkCrc s = emitCommand s ∨ checkCrc s = reportError .crcError s := by
  unfold checkCrc
  exact ite_eq_or_eq _ _ _

/-! ### What no row writes: the parameters, the inputs and the escape flag -/

/-- The fields no symbol writes hold the same in `t` as in `s`. -/
def KeepsControls (s t : State) : Prop :=
  t.params = s.params ∧ t.inputs = s.inputs ∧ t.esc = s.esc

theorem keepsControls_checkCrc (s : State) : KeepsControls s (checkCrc s) := by
  rcases checkCrc_cases s with h | h
  · rw [h]; exact ⟨rfl, rfl, rfl⟩
  · rw [h]; exact ⟨rfl, rfl, rfl⟩

theorem DataStep.keepsControls {d : Byte} {s t : State} (h : DataStep d s t) :
    KeepsControls s t := by
  cases h with
  | crcHigh => exact keepsControls_checkCrc (storeByte d s)
  | _ => exact ⟨rfl, rfl, rfl⟩

theorem SymbolEffect.keepsControls {s t : State} (h : SymbolEffect s t) : KeepsControls s t := by
  cases h with
  | quiet => exact ⟨rfl, rfl, rfl⟩
  | start => exact ⟨rfl, rfl, rfl⟩
  | restart => exact ⟨rfl, rfl, rfl⟩
  | data _ _ hdata => exact hdata.keepsControls

theorem StepEffect.params_inputs {w : InputWord} {s t : State} (h : StepEffect w s t) :
    t.params = s.params ∧ t.inputs = s.inputs := by
  cases h with
  | reset => exact ⟨rfl, rfl⟩
  | timeout => exact ⟨rfl, rfl⟩
  | symbol _ _ hsymbol =>
    obtain ⟨hparams, hinputs, -⟩ := hsymbol.keepsControls
    exact ⟨hparams, hinputs⟩

/-- Settles O2: no row writes `params` or `inputs`, and the step itself takes the word off. -/
theorem parametersNeverChange : Obligations.ParametersNeverChange := by
  unfold Obligations.ParametersNeverChange
  intro s t h
  exact (stepEffect_of_step h).params_inputs

/-! ### The invariant taken apart -/

theorem BlockInv.counts {s : State} (h : BlockInv s) : CountsAgree s := h.1

theorem BlockInv.range {s : State} (h : BlockInv s) : InRange s := h.2

theorem BlockInv.wf {s : State} (h : BlockInv s) : s.params.Wf := h.range.1

theorem BlockInv.capacity {s : State} (h : BlockInv s) : 3 ≤ s.params.rxBufBytes := h.wf.1

theorem BlockInv.size {s : State} (h : BlockInv s) : s.buf.length = s.params.rxBufBytes := by
  obtain ⟨-, hsize, -⟩ := h.range
  exact hsize

theorem BlockInv.phase {s : State} (h : BlockInv s) : PhaseFits s.st s.n (payloadLen s) :=
  (countsAgree_iff.mp h.counts).1

/-! ### The sizes and ranges are kept -/

theorem inc_lt (p : Params) (c : Nat) : inc p c < 2 ^ p.cntW :=
  Nat.mod_lt _ (Nat.two_pow_pos _)

@[simp] theorem length_payloadBytes (s : State) : (payloadBytes s).length = 15 := by
  simp [payloadBytes]

theorem inRange_emit {c : BitVec 3} {s : State} (hc : c ≠ 7#3) (h : InRange s) :
    InRange (emit c s) := by
  obtain ⟨hwf, hbuf, hframes, hincomplete, hcrc, -, hpayload⟩ := h
  exact ⟨hwf, hbuf, hframes, hincomplete, hcrc, hc, hpayload⟩

theorem inRange_storeByte {d : Byte} {s : State} (h : InRange s) : InRange (storeByte d s) := by
  obtain ⟨hwf, hbuf, hrest⟩ := h
  exact ⟨hwf, (length_buf_storeByte d s).trans hbuf, hrest⟩

theorem inRange_start {s : State} (h : InRange s) : InRange (start s) := by
  obtain ⟨hwf, hbuf, hrest⟩ := h
  exact ⟨hwf, (length_buf_start s).trans hbuf, hrest⟩

theorem inRange_emitToken {s : State} (h : InRange s) : InRange (emitToken s) := by
  obtain ⟨hwf, hbuf, -, hincomplete, hcrc, -, -⟩ := h
  exact ⟨hwf, hbuf, inc_lt _ _, hincomplete, hcrc, (by decide : EV_TOKEN ≠ 7#3), by simp⟩

theorem inRange_checkCrc {s : State} (h : InRange s) : InRange (checkCrc s) := by
  obtain ⟨hwf, hbuf, hframes, hincomplete, hcrc, -, hpayload⟩ := h
  rcases checkCrc_cases s with heq | heq
  · rw [heq]
    exact ⟨hwf, hbuf, inc_lt _ _, hincomplete, hcrc, (by decide : EV_COMMAND ≠ 7#3),
      by simp⟩
  · rw [heq]
    exact ⟨hwf, hbuf, hframes, hincomplete, inc_lt _ _, (by decide : EV_CRC_ERROR ≠ 7#3),
      hpayload⟩

/-! ### R23 is kept -/

/-- Any state resynchronized has the counts of SYNC. -/
theorem countsAgree_of_sync {s : State} (hst : s.st = .sync) (hn : s.n = 0) : CountsAgree s :=
  countsAgree_iff.mpr ⟨by rw [hst]; exact hn, by omega, by omega⟩

theorem blockInv_resync {s : State} (h : InRange s) : BlockInv (resync s) :=
  ⟨countsAgree_of_sync rfl rfl, h⟩

/-- Behind a new frame's marker the counts are those of HDR. -/
theorem blockInv_start {s : State} (h : InRange s) : BlockInv (start s) := by
  obtain ⟨⟨hcap, -⟩, hbuf, -⟩ := id h
  have hmarker : bufAt (start s) 0 = 0xFD#8 := bufAt_start_zero (by omega)
  refine ⟨countsAgree_iff.mpr ⟨.inl rfl, fun _ => hmarker, ?_⟩, inRange_start h⟩
  change 1 ≤ s.params.rxBufBytes
  omega

/-- A store mid-frame keeps R23 when the state entered admits the new count. -/
theorem blockInv_storeByte {d : Byte} {s : State} {q : Fsm} (h : BlockInv s) (hst : s.st ≠ .sync)
    (hroom : BufRoom s) (hq : PhaseFits q (s.n + 1) (payloadLen (storeByte d s))) :
    BlockInv { storeByte d s with st := q } := by
  obtain ⟨hphase, hmarker, -⟩ := countsAgree_iff.mp h.counts
  have hn : 1 ≤ s.n := one_le_of_phaseFits hphase hst
  have hzero : bufAt (storeByte d s) 0 = bufAt s 0 := bufAt_storeByte_ne (by omega)
  exact ⟨countsAgree_iff.mpr ⟨hq, fun _ => hzero.trans (hmarker hn), hroom⟩,
    inRange_storeByte h.range⟩

theorem DataStep.blockInv {d : Byte} {s t : State} (h : DataStep d s t) (hinv : BlockInv s) :
    BlockInv t := by
  have hrange := hinv.range
  have hphase := hinv.phase
  cases h with
  | discard hst => exact hinv
  | overflow hst hfull =>
    exact blockInv_resync (s := emit EV_OVERFLOW s) (inRange_emit (by decide) hrange)
  | hdr0 hst hroom hn =>
    have hq : PhaseFits s.st (s.n + 1) (payloadLen (storeByte d s)) := by
      rw [hst]
      exact .inr (by omega)
    exact blockInv_storeByte hinv (by simp [hst]) hroom hq
  | token hst hroom hn htype =>
    exact blockInv_resync (inRange_emitToken (inRange_storeByte hrange))
  | command hst hroom hn htype =>
    exact blockInv_storeByte hinv (by simp [hst]) hroom (.inl (by omega))
  | pktMore hst hroom hn =>
    rw [hst] at hphase
    have hthree : 3 ≤ s.n := hphase.elim (fun h => by omega) (fun h => by omega)
    have hq : PhaseFits s.st (s.n + 1) (payloadLen (storeByte d s)) := by
      rw [hst]
      exact .inr (by omega)
    exact blockInv_storeByte hinv (by simp [hst]) hroom hq
  | pktLast hst hroom hn => exact blockInv_storeByte hinv (by simp [hst]) hroom (.inl hn)
  | crcLow hst hroom hn =>
    have hq : PhaseFits s.st (s.n + 1) (payloadLen (storeByte d s)) := by
      rw [hst]
      exact .inr hn
    exact blockInv_storeByte hinv (by simp [hst]) hroom hq
  | crcHigh hst hroom hn =>
    exact blockInv_resync (inRange_checkCrc (inRange_storeByte hrange))

theorem SymbolEffect.blockInv {s t : State} (h : SymbolEffect s t) (hinv : BlockInv s) :
    BlockInv t := by
  cases h with
  | quiet => exact hinv
  | start => exact blockInv_start hinv.range
  | restart => exact blockInv_start (inRange_emit (by decide) hinv.range)
  | data _ _ hdata => exact hdata.blockInv hinv

/-- R23, R40: RESET makes the invariant hold wherever the parameters are admitted. -/
theorem blockInv_resetWith {p : Params} (hp : p.Wf) (ws : List InputWord) :
    BlockInv { State.resetWith p with inputs := ws } := by
  refine ⟨countsAgree_of_sync rfl rfl, hp, ?_, ?_, ?_, ?_, (by decide : 0#3 ≠ 7#3), ?_⟩
  · exact List.length_replicate
  · exact Nat.two_pow_pos _
  · exact Nat.two_pow_pos _
  · exact Nat.two_pow_pos _
  · exact List.length_replicate

/-- No event but the reserved code 7 and no escape flag breaks the invariant. -/
theorem blockInv_withFlags {s : State} (hinv : BlockInv s) {c : BitVec 3} (hc : c ≠ 7#3)
    (e : Bool) : BlockInv { s with evCode := c, esc := e } := by
  obtain ⟨hcounts, hrange⟩ := hinv
  exact ⟨hcounts, inRange_emit hc hrange⟩

theorem blockInv_takeError_incomplete {s : State} (hinv : BlockInv s) :
    BlockInv (takeError .incomplete s) := by
  obtain ⟨-, hwf, hbuf, hframes, -, hcrc, -, hpayload⟩ := hinv
  exact ⟨countsAgree_of_sync rfl rfl, hwf, hbuf, hframes, inc_lt _ _, hcrc,
    (by decide : 4#3 ≠ 7#3), hpayload⟩

theorem StepEffect.blockInv {w : InputWord} {s t : State} (h : StepEffect w s t)
    (hinv : BlockInv s) : BlockInv t := by
  cases h with
  | reset => exact blockInv_resetWith hinv.wf s.inputs
  | timeout => exact blockInv_takeError_incomplete hinv
  | symbol _ e hsymbol => exact hsymbol.blockInv (blockInv_withFlags hinv (by decide) e)

theorem blockInv_of_stepOn {w : InputWord} {s t : State} (hinv : BlockInv s)
    (h : stepOn w s = .next t) : BlockInv t :=
  (stepEffect_of_stepOn h).blockInv hinv

theorem blockInv_of_step {s t : State} (hinv : BlockInv s) (h : step s = .next t) : BlockInv t :=
  (stepEffect_of_step h).blockInv hinv

/-- Settles O5: by what a step can do; the rows that store keep R23 because the state they enter
admits the new count. -/
theorem stepKeepsInvariant : Obligations.StepKeepsInvariant := by
  unfold Obligations.StepKeepsInvariant
  intro s t hinv h
  exact blockInv_of_step hinv h

/-- Settles O6: the reset state of every admitted parameter value, the defaults among them. -/
theorem resetStateSatisfiesInvariant : Obligations.ResetStateSatisfiesInvariant := by
  unfold Obligations.ResetStateSatisfiesInvariant
  exact ⟨blockInv_resetWith (p := Params.default) (by decide) [],
    fun p hp => blockInv_resetWith hp []⟩

/-- Settles O4: by induction over the run, from the base case O6 and the step O5. -/
theorem reachableStatesSatisfyInvariant : Obligations.ReachableStatesSatisfyInvariant := by
  unfold Obligations.ReachableStatesSatisfyInvariant
  intro p s hp h
  induction h with
  | reset ws => exact blockInv_resetWith hp ws
  | step _ hstep ih => exact blockInv_of_step ih hstep

end Sys2Proof.Machine

namespace Sys2Proof.Machine

/-! ### Where a meaning stops (R128, R130) -/

/-- A meaning goes on, or stops as `undefinedState`. -/
def GoesOnOrUndefined (r : Result) : Prop :=
  (∃ t, r = .next t) ∨ r = .fault .undefinedState

theorem goesOnOrUndefined_next (s : State) : GoesOnOrUndefined (.next s) :=
  .inl ⟨s, rfl⟩

theorem GoesOnOrUndefined.ite {c : Prop} [Decidable c] {r₁ r₂ : Result}
    (h₁ : c → GoesOnOrUndefined r₁) (h₂ : ¬c → GoesOnOrUndefined r₂) :
    GoesOnOrUndefined (if c then r₁ else r₂) := by
  by_cases hc : c
  · rw [if_pos hc]
    exact h₁ hc
  · rw [if_neg hc]
    exact h₂ hc

/-- A dispatch selects a row under that row's own condition. -/
theorem goesOnOrUndefined_whenSelected {c : Prop} [Decidable c] {t : State} (hc : c) :
    GoesOnOrUndefined (whenSelected c t) :=
  .inl ⟨t, whenSelected_of hc⟩

/-- R90, R91: what the three states that store have in common; `rest` is what follows when there is
room. -/
theorem GoesOnOrUndefined.ofRoom {q : Fsm} {s : State} {rest : Result} (hst : s.st = q)
    (hrest : BufRoom s → GoesOnOrUndefined rest) :
    GoesOnOrUndefined (
      if BufFull s then whenSelected (s.st = q ∧ BufFull s) (takeError .overflow s)
      else if ¬BufRoom s then .fault .undefinedState
      else rest) :=
  .ite (fun hfull => goesOnOrUndefined_whenSelected ⟨hst, hfull⟩) fun _ =>
  .ite (fun _ => .inr rfl) fun hroom => hrest (not_not.mp hroom)

theorem symData_goesOnOrUndefined (d : Byte) (s : State) : GoesOnOrUndefined (symData d s) := by
  unfold symData
  cases hst : s.st with
  | sync => exact goesOnOrUndefined_whenSelected hst
  | hdr =>
    exact .ofRoom hst fun hroom =>
      .ite (fun hn => goesOnOrUndefined_whenSelected ⟨⟨hst, hroom⟩, hn⟩) fun _ =>
      .ite (fun hn =>
          .ite (fun htype => goesOnOrUndefined_whenSelected ⟨⟨hst, hroom⟩, hn, htype⟩) fun htype =>
            goesOnOrUndefined_whenSelected ⟨⟨hst, hroom⟩, hn, typeBit_eq_one_of_ne_zero htype⟩)
        fun _ => .inr rfl
  | pkt =>
    exact .ofRoom hst fun hroom =>
      .ite (fun hn => goesOnOrUndefined_whenSelected ⟨⟨hst, hroom⟩, hn⟩) fun _ =>
      .ite (fun hn => goesOnOrUndefined_whenSelected ⟨⟨hst, hroom⟩, hn⟩) fun _ => .inr rfl
  | crc =>
    exact .ofRoom hst fun hroom =>
      .ite (fun hn => goesOnOrUndefined_whenSelected ⟨⟨hst, hroom⟩, hn⟩) fun _ =>
      .ite (fun hn => goesOnOrUndefined_whenSelected ⟨⟨hst, hroom⟩, hn⟩) fun _ => .inr rfl

theorem symMarker_goesOnOrUndefined (s : State) : GoesOnOrUndefined (symMarker s) := by
  by_cases hst : s.st = .sync
  · rw [symMarker_of_sync hst]
    exact goesOnOrUndefined_next _
  · rw [symMarker_of_ne_sync hst]
    exact .ite (fun _ => goesOnOrUndefined_next _) fun _ => symData_goesOnOrUndefined _ _

theorem runSymbol_goesOnOrUndefined (o : Option Symbol) (s : State) :
    GoesOnOrUndefined (runSymbol o s) := by
  rcases o with - | d | -
  · exact goesOnOrUndefined_next s
  · exact symData_goesOnOrUndefined d s
  · exact symMarker_goesOnOrUndefined s

theorem stepOn_goesOnOrUndefined (w : InputWord) (s : State) : GoesOnOrUndefined (stepOn w s) := by
  rw [stepOn_eq]
  rcases decodeInput_cases s.st w with hw | hw | ⟨-, hw⟩ | ⟨-, hw⟩ | hw <;> rw [hw]
  · exact goesOnOrUndefined_next _
  · rw [exec_byte_eq_runSymbol]
    exact runSymbol_goesOnOrUndefined _ _
  · exact goesOnOrUndefined_next _
  · exact goesOnOrUndefined_next _
  · exact goesOnOrUndefined_next _

/-! ### Where R23 holds nothing stops -/

theorem symMarker_goesOn {s : State} (h : CountsAgree s) : ∃ t, symMarker s = .next t := by
  by_cases hst : s.st = .sync
  · exact ⟨_, symMarker_of_sync hst⟩
  · rw [symMarker_of_ne_sync hst]
    split_ifs
    · exact ⟨_, rfl⟩
    · exact symData_goesOn h _

theorem runSymbol_goesOn {s : State} (h : CountsAgree s) (o : Option Symbol) :
    ∃ t, runSymbol o s = .next t := by
  rcases o with - | d | -
  · exact ⟨s, rfl⟩
  · exact symData_goesOn h d
  · exact symMarker_goesOn h

theorem exec_byte_goesOn {s : State} (h : CountsAgree s) (b : Byte) :
    ∃ t, exec (.byte b) s = .next t := by
  rw [exec_byte_eq_runSymbol]
  exact runSymbol_goesOn (s := { s with esc := (classify s.esc b).2 }) h _

theorem stepOn_goesOn {s : State} (h : CountsAgree s) (w : InputWord) :
    ∃ t, stepOn w s = .next t := by
  rw [stepOn_eq]
  rcases decodeInput_cases s.st w with hw | hw | ⟨-, hw⟩ | ⟨-, hw⟩ | hw <;> rw [hw]
  · exact ⟨_, rfl⟩
  · exact exec_byte_goesOn (s := { s with evCode := EV_NONE }) h _
  · exact ⟨_, rfl⟩
  · exact ⟨_, rfl⟩
  · exact ⟨_, rfl⟩

/-- Settles O59: every test of a dispatch but the last is the condition of the row it leads to, and
where R23 holds some row's condition is met. -/
theorem onlyBrokenStatesStop : Obligations.OnlyBrokenStatesStop := by
  unfold Obligations.OnlyBrokenStatesStop
  have goesOn (s : State) (h : CountsAgree s) : ∃ t, step s = .next t :=
    stepOn_goesOn (s := { s with inputs := s.inputs.tail }) h (inputWord s)
  have goesOnOrUndefined (s : State) : GoesOnOrUndefined (step s) :=
    stepOn_goesOnOrUndefined (inputWord s) { s with inputs := s.inputs.tail }
  refine ⟨goesOn, fun s r hfault => ⟨?_, fun hcounts => ?_⟩, fun s r hrefused => ?_⟩
  · rcases goesOnOrUndefined s with ⟨t, hnext⟩ | hundefined
    · cases hfault.symm.trans hnext
    · cases hfault.symm.trans hundefined
      rfl
  · obtain ⟨t, hnext⟩ := goesOn s hcounts
    cases hfault.symm.trans hnext
  · rcases goesOnOrUndefined s with ⟨t, hnext⟩ | hundefined
    · cases hrefused.symm.trans hnext
    · cases hrefused.symm.trans hundefined

/-! ### The wire-symbol rows complete and keep the invariant (R77-R81, R89) -/

theorem exec_dataEscaped {s : State} (hesc : s.esc = true) (b : Byte) :
    exec (.dataEscaped b) s = symData (b ||| 0x80#8) { s with esc := false } :=
  if_pos hesc

theorem exec_marker {s : State} (hesc : s.esc = false) : exec .marker s = symMarker s :=
  if_pos hesc

theorem exec_dataPlain {s : State} {b : Byte} (hesc : s.esc = false) (hescape : b ≠ 0xFC#8)
    (hmarker : b ≠ 0xFD#8) : exec (.dataPlain b) s = symData b s :=
  if_pos ⟨hesc, hescape, hmarker⟩

/-- R23, R130: where the invariant holds a DATA symbol completes, keeps it and leaves `esc`. -/
theorem symData_completes {s : State} (hinv : BlockInv s) (d : Byte) :
    ∃ t, symData d s = .next t ∧ t.esc = s.esc ∧ BlockInv t := by
  obtain ⟨t, ht⟩ := exists_dataStep hinv.counts d
  obtain ⟨-, -, hesc⟩ := ht.keepsControls
  exact ⟨t, symData_eq_next_iff.mpr ht, hesc, ht.blockInv hinv⟩

/-- Settles O26: a row takes every symbol where R23 holds, and no symbol writes the flag. -/
theorem byteCompletes : Obligations.ByteCompletes := by
  unfold Obligations.ByteCompletes
  intro s b hinv
  obtain ⟨t, ht⟩ := exec_byte_goesOn hinv.counts b
  have heffect := symbolEffect_of_exec_byte ht
  obtain ⟨-, hinputs, hesc⟩ := heffect.keepsControls
  exact ⟨t, ht, heffect.blockInv hinv, hinputs, hesc.trans (classify_flag s.esc b)⟩

/-- Settles O27: the row is the DATA symbol of the restored byte, with the flag cleared. -/
theorem escapedByteIsData : Obligations.EscapedByteIsData := by
  unfold Obligations.EscapedByteIsData
  intro s b hesc
  rw [exec_dataEscaped hesc]
  exact ⟨rfl, fun hinv => symData_completes (s := { s with esc := false }) hinv _⟩

/-- Settles O30: the row is the DATA symbol of the byte itself. -/
theorem plainByteIsData : Obligations.PlainByteIsData := by
  unfold Obligations.PlainByteIsData
  intro s b hesc hescape hmarker
  rw [exec_dataPlain hesc hescape hmarker]
  refine ⟨rfl, fun hinv => ?_⟩
  obtain ⟨t, ht, hkeeps, hinv'⟩ := symData_completes hinv b
  exact ⟨t, ht, hkeeps.trans hesc, hinv'⟩

/-- Settles O29: the row is the MARKER symbol, which `Start`s in SYNC and mid-frame under RESTART;
only the latter emits. -/
theorem markerByteIsAMarker : Obligations.MarkerByteIsAMarker := by
  unfold Obligations.MarkerByteIsAMarker
  intro s hesc
  rw [exec_marker hesc]
  refine ⟨rfl, fun hinv => ?_, fun hst t w h ht => marker_of_stepOn_leaves_sync hst h ht⟩
  obtain ⟨t, ht⟩ := symMarker_goesOn hinv.counts
  have heffect : SymbolEffect s t :=
    symbolEffect_of_runSymbol (o := some .marker) (fun _ => hesc) ht
  obtain ⟨-, -, hkeeps⟩ := heffect.keepsControls
  refine ⟨t, ht, heffect.blockInv hinv, hkeeps.trans hesc, fun hst => ?_, fun hst hp => ?_⟩
  · cases (symMarker_of_sync hst).symm.trans ht
    rfl
  · cases (symMarker_of_restart hst hp).symm.trans ht
    rfl

/-- Settles O36: under DATA the dispatch and each row of a marker mid-frame hand the byte 0xFD on.
-/
theorem midFrameMarkerIsData : Obligations.MidFrameMarkerIsData := by
  unfold Obligations.MidFrameMarkerIsData
  intro s hp
  have of_row {row : Instr} (hst : s.st ≠ .sync) (hrow : exec row s = symData 0xFD#8 s) :
      exec row s = symData 0xFD#8 s ∧ symMarker s = symData 0xFD#8 s
        ∧ (BlockInv s → ∃ t, exec row s = .next t ∧ BlockInv t) := by
    refine ⟨hrow, symMarker_of_data hst hp, fun hinv => ?_⟩
    obtain ⟨t, ht, -, hinv'⟩ := symData_completes hinv 0xFD#8
    exact ⟨t, hrow.trans ht, hinv'⟩
  exact ⟨fun hst => of_row (by simp [hst]) (if_pos ⟨hst, hp⟩),
    fun hst => of_row (by simp [hst]) (if_pos ⟨hst, hp⟩),
    fun hst => of_row (by simp [hst]) (if_pos ⟨hst, hp⟩)⟩

/-- Settles O37: the three rows and the dispatch to them take one error, EV_OVERFLOW. -/
theorem fullBufferOverflows : Obligations.FullBufferOverflows := by
  unfold Obligations.FullBufferOverflows
  rintro s t d hfull rfl
  refine ⟨fun hst => ⟨whenSelected_of ⟨hst, hfull⟩, symData_of_full ?_ hfull d⟩,
    fun hst => ⟨whenSelected_of ⟨hst, hfull⟩, symData_of_full ?_ hfull d⟩,
    fun hst => ⟨whenSelected_of ⟨hst, hfull⟩, symData_of_full ?_ hfull d⟩⟩
  · simp [hst]
  · simp [hst]
  · simp [hst]

end Sys2Proof.Machine

namespace Sys2Proof.Machine

/-! ### The frame output registers (R29-R31) -/

/-- The step from `s` to `t` emits a frame: it says so, the registers hold that frame alone, and `s`
was at the frame's last byte. -/
def EmitsFrame (s t : State) : Prop :=
  (t.evCode = EV_TOKEN ∨ t.evCode = EV_COMMAND) ∧ FrameTidy t
    ∧ ((s.st = .hdr ∧ s.n = 2) ∨ s.st = .crc)

/-- The step from `s` to `t` emits no frame and leaves the frame output registers alone. -/
def HoldsFrame (s t : State) : Prop :=
  (t.evCode ≠ 1#3 ∧ t.evCode ≠ 2#3) ∧ SameFrame s t

theorem sameFrame_refl (s : State) : SameFrame s s :=
  ⟨rfl, rfl, rfl, rfl, rfl, rfl, rfl, rfl⟩

theorem holdsFrame_of_event {s t : State} (c : BitVec 3) (hev : t.evCode = c) (h : SameFrame s t)
    (hc : c ≠ 1#3 ∧ c ≠ 2#3) : HoldsFrame s t :=
  ⟨hev ▸ hc, h⟩

/-- R29, R107: a token shows no command, no length and an all-zero payload. -/
theorem frameTidy_emitToken (s : State) : FrameTidy (emitToken s) := by
  refine ⟨fun _ => ⟨rfl, rfl⟩, List.length_replicate, fun i hi _ => ?_⟩
  rw [emitToken_frmPayload, List.getD_replicate _ hi]

/-- R29, R108: payload bytes from `frm_len` up are 0x00. -/
theorem frameTidy_emitCommand (s : State) : FrameTidy (emitCommand s) := by
  refine ⟨fun hkind => absurd hkind (by simp), length_payloadBytes s, fun i hi hlen => ?_⟩
  have hpast : ¬i < payloadLen s := Nat.not_lt.mpr hlen
  rw [emitCommand_frmPayload, payloadBytes, List.getD_eq_getElem _ _ (by simpa using hi),
    List.getElem_map, List.getElem_range, if_neg hpast]

theorem frameTidy_of_sameFrame {s t : State} (h : SameFrame s t) (hs : FrameTidy s) :
    FrameTidy t := by
  obtain ⟨hkind, -, -, -, -, hcmd, hlen, hpayload⟩ := h
  unfold FrameTidy
  rw [hkind, hcmd, hlen, hpayload]
  exact hs

/-- Among the rows of a DATA symbol only the last byte of a frame writes the frame registers. -/
theorem DataStep.frame {d : Byte} {s t : State} (h : DataStep d s t) (hev : s.evCode = EV_NONE) :
    HoldsFrame s t ∨ EmitsFrame s t := by
  cases h with
  | overflow => exact .inl (holdsFrame_of_event EV_OVERFLOW rfl (sameFrame_refl s) (by decide))
  | token hst _ hn => exact .inr ⟨.inl rfl, frameTidy_emitToken (storeByte d s), .inl ⟨hst, hn⟩⟩
  | crcHigh hst =>
    rcases checkCrc_cases (storeByte d s) with heq | heq
    · rw [heq]
      exact .inr ⟨.inr rfl, frameTidy_emitCommand (storeByte d s), .inr hst⟩
    · rw [heq]
      exact .inl (holdsFrame_of_event EV_CRC_ERROR rfl (sameFrame_refl s) (by decide))
  | _ => exact .inl (holdsFrame_of_event EV_NONE hev (sameFrame_refl s) (by decide))

theorem SymbolEffect.frame {s t : State} (h : SymbolEffect s t) (hev : s.evCode = EV_NONE) :
    HoldsFrame s t ∨ EmitsFrame s t := by
  cases h with
  | quiet => exact .inl (holdsFrame_of_event EV_NONE hev (sameFrame_refl s) (by decide))
  | start => exact .inl (holdsFrame_of_event EV_NONE hev (sameFrame_refl s) (by decide))
  | restart => exact .inl (holdsFrame_of_event EV_RESTART rfl (sameFrame_refl s) (by decide))
  | data _ _ hdata => exact hdata.frame hev

/-- Every step but a RESET holds the frame registers or emits a frame. -/
theorem StepEffect.frame {w : InputWord} {s t : State} (h : StepEffect w s t)
    (hrst : w.getLsbD 10 = false) : HoldsFrame s t ∨ EmitsFrame s t := by
  cases h with
  | reset hrst' => exact absurd (hrst.symm.trans hrst') (by decide)
  | timeout => exact .inl (holdsFrame_of_event EV_INCOMPLETE rfl (sameFrame_refl s) (by decide))
  | symbol _ e hsymbol => exact hsymbol.frame rfl

theorem StepEffect.frameTidy {w : InputWord} {s t : State} (h : StepEffect w s t)
    (hs : FrameTidy s) : FrameTidy t := by
  by_cases hrst : w.getLsbD 10 = true
  · cases h with
    | reset => exact frameTidy_emitToken (State.resetWith s.params)
    | timeout hrst' => exact absurd (hrst.symm.trans hrst') (by decide)
    | symbol hrst' => exact absurd (hrst.symm.trans hrst') (by decide)
  · rcases h.frame (eq_false_of_ne_true hrst) with ⟨-, hsame⟩ | ⟨-, htidy, -⟩
    · exact frameTidy_of_sameFrame hsame hs
    · exact htidy

/-- Settles O7: RESET clears the registers as a token does, and a step that writes them emits. -/
theorem frameRegistersStayTidy : Obligations.FrameRegistersStayTidy := by
  unfold Obligations.FrameRegistersStayTidy
  exact ⟨frameTidy_emitToken State.reset, fun s t hs h => (stepEffect_of_step h).frameTidy hs⟩

/-- Settles O8: a step that is no RESET holds the frame registers or reports a frame. -/
theorem frameRegistersHoldBetweenFrames : Obligations.FrameRegistersHoldBetweenFrames := by
  unfold Obligations.FrameRegistersHoldBetweenFrames
  intro s t w hrst h htoken hcommand
  rcases (stepEffect_of_stepOn h).frame hrst with ⟨-, hsame⟩ | ⟨hev, -⟩
  · exact hsame
  · exact absurd hev (not_or.mpr ⟨htoken, hcommand⟩)

/-! ### Where the reader stands after an event (R129) -/

/-- The three clauses of R129 on the state after a step from `s` to `t`. -/
def StandsAsReported (s t : State) : Prop :=
  (t.evCode = 1#3 ∨ t.evCode = 2#3 ∨ t.evCode = 3#3 ∨ t.evCode = 4#3 →
    t.st = .sync ∧ t.n = 0 ∧ t.esc = false)
  ∧ (t.evCode = 5#3 → t.st = .sync ∧ t.n = 0)
  ∧ (t.evCode = 6#3 → t.st = .hdr ∧ t.n = 1 ∧ t.esc = false
      ∧ s.st ≠ .sync ∧ s.params.midMarker = .restart)

theorem standsAsReported_of_none {s t : State} (hev : t.evCode = EV_NONE) :
    StandsAsReported s t := by
  unfold StandsAsReported
  rw [hev]
  exact ⟨fun h => absurd h (by decide), fun h => absurd h (by decide),
    fun h => absurd h (by decide)⟩

theorem standsAsReported_of_sync {s t : State} (hst : t.st = .sync) (hn : t.n = 0)
    (hesc : t.esc = false) (hev : t.evCode ≠ 6#3) : StandsAsReported s t :=
  ⟨fun _ => ⟨hst, hn, hesc⟩, fun _ => ⟨hst, hn⟩, fun h => absurd h hev⟩

theorem standsAsReported_of_restart {s t : State} (hev : t.evCode = EV_RESTART)
    (h : t.st = .hdr ∧ t.n = 1 ∧ t.esc = false ∧ s.st ≠ .sync ∧ s.params.midMarker = .restart) :
    StandsAsReported s t := by
  unfold StandsAsReported
  rw [hev]
  exact ⟨fun h => absurd h (by decide), fun h => absurd h (by decide), fun _ => h⟩

theorem DataStep.standsAsReported {d : Byte} {s t : State} (h : DataStep d s t)
    (hev : s.evCode = EV_NONE) (hesc : s.esc = false) : StandsAsReported s t := by
  obtain ⟨-, -, hkeeps⟩ := h.keepsControls
  rw [hesc] at hkeeps
  cases h with
  | overflow => exact standsAsReported_of_sync rfl rfl hkeeps (by decide : EV_OVERFLOW ≠ 6#3)
  | token => exact standsAsReported_of_sync rfl rfl hkeeps (by decide : EV_TOKEN ≠ 6#3)
  | crcHigh =>
    refine standsAsReported_of_sync rfl rfl hkeeps ?_
    rcases checkCrc_cases (storeByte d s) with heq | heq
    · rw [heq]
      exact (by decide : EV_COMMAND ≠ 6#3)
    · rw [heq]
      exact (by decide : EV_CRC_ERROR ≠ 6#3)
  | _ => exact standsAsReported_of_none hev

theorem StepEffect.standsAsReported {w : InputWord} {s t : State} (h : StepEffect w s t) :
    StandsAsReported s t := by
  cases h with
  | reset => exact standsAsReported_of_none rfl
  | timeout => exact standsAsReported_of_sync rfl rfl rfl (by decide : EV_INCOMPLETE ≠ 6#3)
  | symbol _ e hsymbol =>
    cases hsymbol with
    | quiet => exact standsAsReported_of_none rfl
    | start => exact standsAsReported_of_none rfl
    | restart hesc hst hp =>
      exact standsAsReported_of_restart rfl ⟨rfl, rfl, hesc, hst, hp⟩
    | data hesc _ hdata => exact hdata.standsAsReported rfl hesc

/-- Settles O58: by what a step can do. The prologue has cleared `ev_code`, so an event is the
step's own, and a symbol comes with no escape pending. -/
theorem eventsSayWhereTheReaderStands : Obligations.EventsSayWhereTheReaderStands := by
  unfold Obligations.EventsSayWhereTheReaderStands
  intro s t w _ h
  exact (stepEffect_of_stepOn h).standsAsReported

/-! ### The steps after a frame (R149) -/

/-- A state one step away from no frame's last byte: in SYNC, or just behind a marker. -/
def BetweenFrames (s : State) : Prop :=
  s.st = .sync ∨ (s.st = .hdr ∧ s.n = 1)

theorem not_emitsFrame_of_betweenFrames {s t : State} (h : BetweenFrames s) : ¬EmitsFrame s t := by
  rintro ⟨-, -, hlast⟩
  rcases h with hst | ⟨hst, hn⟩
  · simp [hst] at hlast
  · simp [hst, hn] at hlast

/-- R86, R87: from SYNC a step that is no RESET goes no further than behind a marker. -/
theorem StepEffect.betweenFrames_of_sync {w : InputWord} {s t : State} (h : StepEffect w s t)
    (hst : s.st = .sync) : BetweenFrames t := by
  cases h with
  | reset => exact .inl rfl
  | timeout => exact .inl rfl
  | symbol _ e hsymbol =>
    cases hsymbol with
    | quiet => exact .inl hst
    | start => exact .inr ⟨rfl, rfl⟩
    | restart => exact .inr ⟨rfl, rfl⟩
    | data _ _ hdata => exact .inl (symData_keeps_sync (symData_eq_next_iff.mpr hdata) hst)

/-- R31: a step from such a state holds the frame just emitted. -/
theorem holdsFrame_of_betweenFrames {w : InputWord} {s t : State} (hs : BetweenFrames s)
    (hrst : w.getLsbD 10 = false) (h : stepOn w s = .next t) : HoldsFrame s t :=
  ((stepEffect_of_stepOn h).frame hrst).resolve_right (not_emitsFrame_of_betweenFrames hs)

theorem frameValid_iff (s : State) : frameValid s = true ↔ s.evCode = 1#3 ∨ s.evCode = 2#3 := by
  unfold frameValid
  rw [Bool.or_eq_true, beq_iff_eq, beq_iff_eq]
  rfl

theorem frameValid_of_holdsFrame {s t : State} (h : HoldsFrame s t) : frameValid t = false := by
  obtain ⟨hev, -⟩ := h
  exact eq_false_of_ne_true (mt (frameValid_iff t).mp (not_or.mpr hev))

/-- Settles O60: a frame leaves the reader in SYNC, from where the last byte of the next frame is at
least three steps away. -/
theorem emittedFrameLastsThreeSteps : Obligations.EmittedFrameLastsThreeSteps := by
  unfold Obligations.EmittedFrameLastsThreeSteps
  intro s t0 t1 t2 w0 w1 w2 _ h0 hvalid hrst1 h1 hrst2 h2
  have hev : t0.evCode = 1#3 ∨ t0.evCode = 2#3 := (frameValid_iff t0).mp hvalid
  obtain ⟨hsync, -, -⟩ := (stepEffect_of_stepOn h0).standsAsReported.1 (hev.imp_right .inl)
  have hold1 := holdsFrame_of_betweenFrames (.inl hsync) hrst1 h1
  have hold2 :=
    holdsFrame_of_betweenFrames ((stepEffect_of_stepOn h1).betweenFrames_of_sync hsync) hrst2 h2
  refine ⟨frameValid_of_holdsFrame hold1, frameValid_of_holdsFrame hold2, hold1.2, ?_⟩
  obtain ⟨-, hkind1, hdest1, hbcast1, hsrc1, hseq1, hcmd1, hlen1, hpayload1⟩ := hold1
  obtain ⟨-, hkind2, hdest2, hbcast2, hsrc2, hseq2, hcmd2, hlen2, hpayload2⟩ := hold2
  exact ⟨hkind2.trans hkind1, hdest2.trans hdest1, hbcast2.trans hbcast1, hsrc2.trans hsrc1,
    hseq2.trans hseq1, hcmd2.trans hcmd1, hlen2.trans hlen1, hpayload2.trans hpayload1⟩

/-! ### Overflow (R99) -/

theorem evCode_ne {t : State} {c' : BitVec 3} (c : BitVec 3) (hev : t.evCode = c) (hc : c ≠ c') :
    t.evCode ≠ c' :=
  hev ▸ hc

/-- R91: only a DATA symbol that finds the buffer full reports EV_OVERFLOW. -/
theorem DataStep.full_of_overflow {d : Byte} {s t : State} (h : DataStep d s t)
    (hev : s.evCode = EV_NONE) (ht : t.evCode = 5#3) : s.st ≠ .sync ∧ BufFull s := by
  cases h with
  | overflow hst hfull => exact ⟨hst, hfull⟩
  | token => exact absurd ht (evCode_ne EV_TOKEN rfl (by decide))
  | crcHigh =>
    rcases checkCrc_cases (storeByte d s) with heq | heq
    · rw [heq] at ht
      exact absurd ht (evCode_ne EV_COMMAND rfl (by decide))
    · rw [heq] at ht
      exact absurd ht (evCode_ne EV_CRC_ERROR rfl (by decide))
  | _ => exact absurd ht (evCode_ne EV_NONE hev (by decide))

theorem StepEffect.full_of_overflow {w : InputWord} {s t : State} (h : StepEffect w s t)
    (ht : t.evCode = 5#3) : s.st ≠ .sync ∧ BufFull s := by
  cases h with
  | reset => exact absurd ht (evCode_ne EV_NONE rfl (by decide))
  | timeout => exact absurd ht (evCode_ne EV_INCOMPLETE rfl (by decide))
  | symbol _ e hsymbol =>
    cases hsymbol with
    | quiet => exact absurd ht (evCode_ne EV_NONE rfl (by decide))
    | start => exact absurd ht (evCode_ne EV_NONE rfl (by decide))
    | restart => exact absurd ht (evCode_ne EV_RESTART rfl (by decide))
    | data _ _ hdata => exact hdata.full_of_overflow rfl ht

/-- Outside SYNC a count of 4 or more is below the end of the frame, `6 + L`. -/
theorem lt_frame_of_phaseFits {q : Fsm} {n l : Nat} (h : PhaseFits q n l) (hq : q ≠ .sync)
    (hn : 4 ≤ n) : n < 6 + l := by
  cases q with
  | sync => exact absurd rfl hq
  | hdr => change n = 1 ∨ n = 2 at h; omega
  | pkt => change n = 3 ∨ (4 ≤ n ∧ n ≤ 3 + l) at h; omega
  | crc => change n = 4 + l ∨ n = 5 + l at h; omega

/-- Settles O45: an overflow finds the count at the capacity, and R23 bounds the count by 20 and by
the frame in progress. -/
theorem overflowNeedsASmallBuffer : Obligations.OverflowNeedsASmallBuffer := by
  unfold Obligations.OverflowNeedsASmallBuffer
  intro s t w hinv h ht
  obtain ⟨hst, hfull⟩ := (stepEffect_of_stepOn h).full_of_overflow ht
  have hphase := hinv.phase
  have hmax := le_twenty_of_phaseFits hphase (payloadLen_le s)
  refine ⟨by omega, hfull, fun hn => ?_⟩
  rw [← hfull]
  exact lt_frame_of_phaseFits hphase hst hn

/-! ### The output ports and the reset table -/

/-- R34: the NW bits of `stat_n` hold every count up to the capacity. -/
theorem lt_two_pow_nw {n : Nat} {p : Params} (h : n ≤ p.rxBufBytes) : n < 2 ^ p.nw :=
  h.trans_lt Nat.lt_log2_self

/-- Settles O10: R23 and the ranges keep each value within its port. -/
theorem outputPortsShowTheState : Obligations.OutputPortsShowTheState := by
  unfold Obligations.OutputPortsShowTheState
  intro s hinv
  obtain ⟨hcounts, -, -, hframes, hincomplete, hcrc, -, hpayload⟩ := hinv
  obtain ⟨-, -, hle⟩ := countsAgree_iff.mp hcounts
  refine ⟨bne_iff_ne, frameValid_iff s, ?_, ?_, ?_, ?_, ?_, ?_, fun i => ?_⟩
  · unfold statSt
    cases s.st with
    | sync => rfl
    | hdr => rfl
    | pkt => rfl
    | crc => rfl
  · exact (BitVec.toNat_ofNat _ _).trans (Nat.mod_eq_of_lt (lt_two_pow_nw hle))
  · unfold statEsc
    cases s.esc with
    | false => decide
    | true => decide
  · exact (BitVec.toNat_ofNat _ _).trans (Nat.mod_eq_of_lt hframes)
  · exact (BitVec.toNat_ofNat _ _).trans (Nat.mod_eq_of_lt hincomplete)
  · exact (BitVec.toNat_ofNat _ _).trans (Nat.mod_eq_of_lt hcrc)
  · have hi : i.val < s.frmPayload.length := by omega
    rw [frmPayloadAt, List.getD_eq_getElem _ _ hi, List.getElem?_eq_getElem hi]

/-- Settles O9: every element of R18 in the reset state is R40's literal. -/
theorem resetStateHoldsItsTable : Obligations.ResetStateHoldsItsTable := by
  unfold Obligations.ResetStateHoldsItsTable
  exact ⟨rfl, rfl, rfl, rfl, rfl, rfl, rfl, rfl, rfl, rfl, rfl, rfl, rfl, rfl, rfl, rfl⟩

end Sys2Proof.Machine

namespace Sys2Proof.Machine
theorem hdr0Byte_eq_append (dest : BitVec 6) (bcast kind : BitVec 1) :
    hdr0Byte dest bcast kind = dest ++ (bcast ++ kind) := by
  refine BitVec.eq_of_getLsbD_eq fun i hi => ?_
  unfold hdr0Byte
  simp only [BitVec.getLsbD_or, BitVec.getLsbD_shiftLeft, BitVec.getLsbD_setWidth,
    BitVec.getLsbD_append]
  interval_cases i <;> simp

theorem hdr1Byte_eq_append (src : BitVec 6) (seq : BitVec 2) : hdr1Byte src seq = src ++ seq := by
  refine BitVec.eq_of_getLsbD_eq fun i hi => ?_
  unfold hdr1Byte
  simp only [BitVec.getLsbD_or, BitVec.getLsbD_shiftLeft, BitVec.getLsbD_setWidth,
    BitVec.getLsbD_append]
  interval_cases i <;> simp

theorem cmdlenByte_eq_append (cmd : BitVec 4) (len : Nat) :
    cmdlenByte cmd len = cmd ++ BitVec.ofNat 4 len := by
  have hmask : ∀ i < 8, (0x0F#8).getLsbD i = decide (i < 4) := by decide
  refine BitVec.eq_of_getLsbD_eq fun i hi => ?_
  unfold cmdlenByte
  rw [BitVec.getLsbD_or, BitVec.getLsbD_and, hmask i hi, BitVec.getLsbD_ofNat]
  simp only [BitVec.getLsbD_shiftLeft, BitVec.getLsbD_setWidth, BitVec.getLsbD_append,
    BitVec.getLsbD_ofNat]
  interval_cases i <;> simp

theorem destField_hdr0Byte (dest : BitVec 6) (bcast kind : BitVec 1) :
    destField (hdr0Byte dest bcast kind) = dest := by
  rw [hdr0Byte_eq_append]
  exact BitVec.extractLsb'_append_eq_left

theorem bcastField_hdr0Byte (dest : BitVec 6) (bcast kind : BitVec 1) :
    bcastField (hdr0Byte dest bcast kind) = bcast := by
  rw [hdr0Byte_eq_append]
  exact (BitVec.extractLsb'_append_eq_of_add_le (by decide)).trans BitVec.extractLsb'_append_eq_left

theorem typeField_hdr0Byte (dest : BitVec 6) (bcast kind : BitVec 1) :
    typeField (hdr0Byte dest bcast kind) = kind := by
  rw [hdr0Byte_eq_append]
  exact (BitVec.extractLsb'_append_eq_of_add_le (by decide)).trans
    BitVec.extractLsb'_append_eq_right

theorem srcField_hdr1Byte (src : BitVec 6) (seq : BitVec 2) :
    srcField (hdr1Byte src seq) = src := by
  rw [hdr1Byte_eq_append]
  exact BitVec.extractLsb'_append_eq_left

theorem seqField_hdr1Byte (src : BitVec 6) (seq : BitVec 2) :
    seqField (hdr1Byte src seq) = seq := by
  rw [hdr1Byte_eq_append]
  exact BitVec.extractLsb'_append_eq_right

theorem cmdField_cmdlenByte (cmd : BitVec 4) (len : Nat) : cmdField (cmdlenByte cmd len) = cmd := by
  rw [cmdlenByte_eq_append]
  exact BitVec.extractLsb'_append_eq_left

theorem lenField_cmdlenByte (cmd : BitVec 4) (len : Nat) :
    lenField (cmdlenByte cmd len) = BitVec.ofNat 4 len := by
  rw [cmdlenByte_eq_append]
  exact BitVec.extractLsb'_append_eq_right

theorem toNat_lenField_cmdlenByte (cmd : BitVec 4) {len : Nat} (hlen : len ≤ 15) :
    (lenField (cmdlenByte cmd len)).toNat = len := by
  rw [lenField_cmdlenByte]
  exact (BitVec.toNat_ofNat _ _).trans (Nat.mod_eq_of_lt (by omega))

/-- Settles O16: each header byte is its fields side by side. -/
theorem headerFieldsComeBack : Obligations.HeaderFieldsComeBack := by
  unfold Obligations.HeaderFieldsComeBack
  exact ⟨fun d b k =>
      ⟨destField_hdr0Byte d b k, bcastField_hdr0Byte d b k, typeField_hdr0Byte d b k⟩,
    fun s q => ⟨srcField_hdr1Byte s q, seqField_hdr1Byte s q⟩,
    fun c l hl => ⟨cmdField_cmdlenByte c l, toNat_lenField_cmdlenByte c hl⟩⟩

/-! ### Encoding and decoding a word (R53-R57, R59, R104) -/

/-- No row's word has a bit outside its format: the per-row family `EncodingFits`, put together. -/
theorem encode_fits : ∀ i : Instr, encode i &&& ~~~i.format.bits = 0#16
  | .reset => Laws.EncodingFits.reset
  | .byte b => Laws.EncodingFits.byte b
  | .timeoutMidframe => Laws.EncodingFits.timeoutMidframe
  | .timeoutSync => Laws.EncodingFits.timeoutSync
  | .idle => Laws.EncodingFits.idle
  | .dataEscaped b => Laws.EncodingFits.dataEscaped b
  | .escPrefix => Laws.EncodingFits.escPrefix
  | .marker => Laws.EncodingFits.marker
  | .dataPlain b => Laws.EncodingFits.dataPlain b
  | .syncMarker => Laws.EncodingFits.syncMarker
  | .syncData d => Laws.EncodingFits.syncData d
  | .hdrMarkerRestart => Laws.EncodingFits.hdrMarkerRestart
  | .hdrMarkerData => Laws.EncodingFits.hdrMarkerData
  | .pktMarkerRestart => Laws.EncodingFits.pktMarkerRestart
  | .pktMarkerData => Laws.EncodingFits.pktMarkerData
  | .crcMarkerRestart => Laws.EncodingFits.crcMarkerRestart
  | .crcMarkerData => Laws.EncodingFits.crcMarkerData
  | .hdrDataOverflow d => Laws.EncodingFits.hdrDataOverflow d
  | .pktDataOverflow d => Laws.EncodingFits.pktDataOverflow d
  | .crcDataOverflow d => Laws.EncodingFits.crcDataOverflow d
  | .hdrDataHdr0 d => Laws.EncodingFits.hdrDataHdr0 d
  | .hdrDataToken d => Laws.EncodingFits.hdrDataToken d
  | .hdrDataCommand d => Laws.EncodingFits.hdrDataCommand d
  | .pktDataMore d => Laws.EncodingFits.pktDataMore d
  | .pktDataLast d => Laws.EncodingFits.pktDataLast d
  | .crcDataLow d => Laws.EncodingFits.crcDataLow d
  | .crcDataHigh d => Laws.EncodingFits.crcDataHigh d
  | .token => Laws.EncodingFits.token
  | .command => Laws.EncodingFits.command
  | .crcPass => Laws.EncodingFits.crcPass
  | .crcError => Laws.EncodingFits.crcError

theorem decode_inputWord {w : InstrWord} (hfits : w &&& ~~~Format.inputWord.bits = 0#16)
    (c : Cond) : decode .inputWord c w = .ok (decodeInput c.st (w.extractLsb' 0 11)) :=
  if_pos hfits

theorem decode_wireSymbol {w : InstrWord} (hfits : w &&& ~~~Format.wireSymbol.bits = 0#16)
    (c : Cond) : decode .wireSymbol c w = .ok (decodeWire (w.extractLsb' 0 9)) :=
  if_pos hfits

theorem decode_fsmSelect {w : InstrWord} (hfits : w &&& ~~~Format.fsmSelect.bits = 0#16)
    (c : Cond) : decode .fsmSelect c w = decodeFsmWord c w :=
  if_pos hfits

/-- A row of format input_word decodes from its word when the ports it packs select it. -/
theorem decode_encode_input {i : Instr} {c : Cond} {r t v : Bool} {d : Byte}
    (hformat : i.format = .inputWord) (hword : encode i = 0#5 ++ packInput r t v d)
    (hrow : decodeInput c.st (packInput r t v d) = i) : decode i.format c (encode i) = .ok i := by
  have hfits := encode_fits i
  rw [hformat] at hfits ⊢
  rw [decode_inputWord hfits, hword]
  exact congrArg Except.ok
    ((congrArg (decodeInput c.st) BitVec.extractLsb'_append_eq_right).trans hrow)

/-- A row of format wire_symbol decodes from its word when flag and byte select it. -/
theorem decode_encode_wire {i : Instr} {c : Cond} {e : Bool} {b : Byte}
    (hformat : i.format = .wireSymbol) (hword : encode i = 0#7 ++ packWire e b)
    (hrow : decodeWire (packWire e b) = i) : decode i.format c (encode i) = .ok i := by
  have hfits := encode_fits i
  rw [hformat] at hfits ⊢
  rw [decode_wireSymbol hfits, hword]
  exact congrArg Except.ok
    ((congrArg decodeWire BitVec.extractLsb'_append_eq_right).trans hrow)

theorem packFs_marker (q : Fsm) (m : Bool) : (packFs q m).getLsbD 0 = m := by
  cases q <;> cases m <;> rfl

theorem encodeFsm_selector (q : Fsm) (m : Bool) (d : Byte) :
    (encodeFsm q m d).extractLsb' 0 3 = packFs q m :=
  BitVec.extractLsb'_append_eq_right

theorem encodeFsm_byte (q : Fsm) (m : Bool) (d : Byte) : (encodeFsm q m d).extractLsb' 8 8 = d :=
  (BitVec.extractLsb'_append_eq_of_le (by decide)).trans BitVec.extractLsb'_append_eq_left

theorem encodeFsm_marker (q : Fsm) (m : Bool) (d : Byte) : (encodeFsm q m d).getLsbD 0 = m := by
  unfold encodeFsm
  rw [BitVec.getLsbD_append]
  exact packFs_marker q m

/-- R57: the selector and the byte come back out of an fsm_select word; a MARKER symbol has none. -/
theorem decodeFsmWord_encodeFsm (c : Cond) {q : Fsm} {m : Bool} {d : Byte}
    (hd : m = true → d = 0#8) : decodeFsmWord c (encodeFsm q m d) = decodeFsm c (packFs q m) d := by
  unfold decodeFsmWord
  rw [encodeFsm_marker, encodeFsm_byte, encodeFsm_selector, if_neg]
  cases m with
  | false => simp
  | true => simp [hd rfl]

/-- A row of format fsm_select decodes from its word when selector and byte select it. -/
theorem decode_encode_fsm {i : Instr} {c : Cond} {q : Fsm} {m : Bool} {d : Byte}
    (hformat : i.format = .fsmSelect) (hword : encode i = encodeFsm q m d) (hd : m = true → d = 0#8)
    (hrow : decodeFsm c (packFs q m) d = .ok i) : decode i.format c (encode i) = .ok i := by
  have hfits := encode_fits i
  rw [hformat] at hfits ⊢
  rw [decode_fsmSelect hfits, hword, decodeFsmWord_encodeFsm c hd, hrow]

/-! ### The rows of an fsm_select word, by state and kind of symbol (R57) -/

theorem decodeFsm_sync_marker (c : Cond) (d : Byte) :
    decodeFsm c (packFs .sync true) d = .ok .syncMarker := rfl

theorem decodeFsm_sync_data (c : Cond) (d : Byte) :
    decodeFsm c (packFs .sync false) d = .ok (.syncData d) := rfl

theorem decodeFsm_hdr_marker (c : Cond) (d : Byte) :
    decodeFsm c (packFs .hdr true) d = .ok (byPolicy c .hdrMarkerRestart .hdrMarkerData) := rfl

theorem decodeFsm_pkt_marker (c : Cond) (d : Byte) :
    decodeFsm c (packFs .pkt true) d = .ok (byPolicy c .pktMarkerRestart .pktMarkerData) := rfl

theorem decodeFsm_crc_marker (c : Cond) (d : Byte) :
    decodeFsm c (packFs .crc true) d = .ok (byPolicy c .crcMarkerRestart .crcMarkerData) := rfl

theorem byPolicy_of_restart {c : Cond} (hp : c.midMarker = .restart) (i j : Instr) :
    byPolicy c i j = i := by
  unfold byPolicy
  rw [hp]

theorem byPolicy_of_data {c : Cond} (hp : c.midMarker = .data) (i j : Instr) :
    byPolicy c i j = j := by
  unfold byPolicy
  rw [hp]

/-- R90: with room in the buffer the table goes on past the overflow row, as the dispatch does. -/
theorem ite_of_room {α : Type} {c : Cond} (hroom : c.n < c.rxBufBytes) (full beyond stored : α) :
    (if c.n = c.rxBufBytes then full else if c.rxBufBytes < c.n then beyond else stored) =
      stored :=
  (if_neg hroom.ne).trans (if_neg hroom.not_gt)

theorem decodeHdrData_hdr0 {c : Cond} (hroom : c.n < c.rxBufBytes) (hn : c.n + 1 = 2) (d : Byte) :
    decodeHdrData c d = .ok (.hdrDataHdr0 d) :=
  (ite_of_room hroom _ _ _).trans (if_pos hn)

theorem decodeHdrData_of_three {c : Cond} (hroom : c.n < c.rxBufBytes) (hn : c.n + 1 = 3)
    (d : Byte) : decodeHdrData c d =
      if c.hdr0.getLsbD 0 then .ok (.hdrDataCommand d) else .ok (.hdrDataToken d) :=
  (ite_of_room hroom _ _ _).trans ((if_neg (by omega)).trans (if_pos hn))

theorem decodePktData_more {c : Cond} {d : Byte} (hroom : c.n < c.rxBufBytes)
    (hn : c.n + 1 < 4 + lenAfterStore c d) : decodePktData c d = .ok (.pktDataMore d) :=
  (ite_of_room hroom _ _ _).trans (if_pos hn)

theorem decodePktData_last {c : Cond} {d : Byte} (hroom : c.n < c.rxBufBytes)
    (hn : c.n + 1 = 4 + lenAfterStore c d) : decodePktData c d = .ok (.pktDataLast d) :=
  (ite_of_room hroom _ _ _).trans ((if_neg hn.not_lt).trans (if_pos hn))

theorem decodeCrcData_low {c : Cond} {d : Byte} (hroom : c.n < c.rxBufBytes)
    (hn : c.n + 1 = 5 + lenAfterStore c d) : decodeCrcData c d = .ok (.crcDataLow d) :=
  (ite_of_room hroom _ _ _).trans (if_pos hn)

theorem decodeCrcData_high {c : Cond} {d : Byte} (hroom : c.n < c.rxBufBytes)
    (hn : c.n + 1 = 6 + lenAfterStore c d) : decodeCrcData c d = .ok (.crcDataHigh d) :=
  (ite_of_room hroom _ _ _).trans ((if_neg (by omega)).trans (if_pos hn))

/-- A MARKER row of the table decodes from its word, the rest of the row being its policy. -/
theorem decode_encode_marker {i : Instr} {c : Cond} {q : Fsm} (hformat : i.format = .fsmSelect)
    (hword : encode i = encodeFsm q true 0#8) (hrow : decodeFsm c (packFs q true) 0#8 = .ok i) :
    decode i.format c (encode i) = .ok i :=
  decode_encode_fsm hformat hword (fun _ => rfl) hrow

/-- A DATA row of the table decodes from its word, the rest of the row being its count. -/
theorem decode_encode_data {i : Instr} {c : Cond} {q : Fsm} {d : Byte}
    (hformat : i.format = .fsmSelect) (hword : encode i = encodeFsm q false d)
    (hrow : decodeFsm c (packFs q false) d = .ok i) : decode i.format c (encode i) = .ok i :=
  decode_encode_fsm hformat hword (fun h => absurd h (by decide)) hrow

theorem decodeInput_packInput_byte (q : Fsm) (b : Byte) :
    decodeInput q (packInput false false true b) = .byte b := by
  rw [decodeInput_eq, packInput_rst, packInput_valid, packInput_data]
  rfl

/-- Settles O14: each row's word gives back the ports, the flag and byte, or the selector and byte
it was packed from, and the row's condition then picks the row. -/
theorem decodeOfEncodeIsTheInstruction : Obligations.DecodeOfEncodeIsTheInstruction := by
  unfold Obligations.DecodeOfEncodeIsTheInstruction
  intro i c hwf hcond
  cases i with
  | reset => exact decode_encode_input rfl rfl (decodeInput_of_rst (packInput_rst _ _ _ _) c.st)
  | byte b => exact decode_encode_input rfl rfl (decodeInput_packInput_byte c.st b)
  | timeoutMidframe =>
    have hst : c.st ≠ .sync := bne_iff_ne.mp hcond
    exact decode_encode_input rfl rfl
      ((decodeInput_packInput_not_valid c.st false true 0#8).trans (if_neg hst))
  | timeoutSync =>
    have hst : c.st = .sync := beq_iff_eq.mp hcond
    exact decode_encode_input rfl rfl
      ((decodeInput_packInput_not_valid c.st false true 0#8).trans (if_pos hst))
  | idle => exact decode_encode_input rfl rfl (decodeInput_packInput_not_valid c.st false false 0#8)
  | dataEscaped b => exact decode_encode_wire rfl rfl (decodeWire_packWire true b)
  | escPrefix => exact decode_encode_wire rfl rfl (decodeWire_packWire false Config.ESCAPE)
  | marker => exact decode_encode_wire rfl rfl (decodeWire_packWire false Config.MARKER)
  | dataPlain b =>
    obtain ⟨hescape, hmarker⟩ := Bool.and_eq_true_iff.mp hwf
    exact decode_encode_wire rfl rfl ((decodeWire_packWire false b).trans
      ((if_neg (bne_iff_ne.mp hescape)).trans (if_neg (bne_iff_ne.mp hmarker))))
  | syncMarker => exact decode_encode_marker rfl rfl (decodeFsm_sync_marker c _)
  | syncData d => exact decode_encode_data rfl rfl (decodeFsm_sync_data c d)
  | hdrMarkerRestart =>
    refine decode_encode_marker rfl rfl ?_
    rw [decodeFsm_hdr_marker, byPolicy_of_restart (beq_iff_eq.mp hcond)]
  | hdrMarkerData =>
    refine decode_encode_marker rfl rfl ?_
    rw [decodeFsm_hdr_marker, byPolicy_of_data (beq_iff_eq.mp hcond)]
  | pktMarkerRestart =>
    refine decode_encode_marker rfl rfl ?_
    rw [decodeFsm_pkt_marker, byPolicy_of_restart (beq_iff_eq.mp hcond)]
  | pktMarkerData =>
    refine decode_encode_marker rfl rfl ?_
    rw [decodeFsm_pkt_marker, byPolicy_of_data (beq_iff_eq.mp hcond)]
  | crcMarkerRestart =>
    refine decode_encode_marker rfl rfl ?_
    rw [decodeFsm_crc_marker, byPolicy_of_restart (beq_iff_eq.mp hcond)]
  | crcMarkerData =>
    refine decode_encode_marker rfl rfl ?_
    rw [decodeFsm_crc_marker, byPolicy_of_data (beq_iff_eq.mp hcond)]
  | hdrDataOverflow d => exact decode_encode_data rfl rfl (if_pos (beq_iff_eq.mp hcond))
  | pktDataOverflow d => exact decode_encode_data rfl rfl (if_pos (beq_iff_eq.mp hcond))
  | crcDataOverflow d => exact decode_encode_data rfl rfl (if_pos (beq_iff_eq.mp hcond))
  | hdrDataHdr0 d =>
    obtain ⟨hroom, hn⟩ : c.n < c.rxBufBytes ∧ c.n + 1 = 2 := by simpa [rowCondition] using hcond
    exact decode_encode_data rfl rfl (decodeHdrData_hdr0 hroom hn d)
  | hdrDataToken d =>
    obtain ⟨⟨hroom, hn⟩, hbit⟩ :
        (c.n < c.rxBufBytes ∧ c.n + 1 = 3) ∧ c.hdr0.getLsbD 0 = false := by
      simpa [rowCondition] using hcond
    refine decode_encode_data rfl rfl ((decodeHdrData_of_three hroom hn d).trans ?_)
    rw [hbit]
    rfl
  | hdrDataCommand d =>
    obtain ⟨⟨hroom, hn⟩, hbit⟩ :
        (c.n < c.rxBufBytes ∧ c.n + 1 = 3) ∧ c.hdr0.getLsbD 0 = true := by
      simpa [rowCondition] using hcond
    exact decode_encode_data rfl rfl ((decodeHdrData_of_three hroom hn d).trans (if_pos hbit))
  | pktDataMore d =>
    obtain ⟨hroom, hn⟩ : c.n < c.rxBufBytes ∧ c.n + 1 < 4 + lenAfterStore c d := by
      simpa [rowCondition] using hcond
    exact decode_encode_data rfl rfl (decodePktData_more hroom hn)
  | pktDataLast d =>
    obtain ⟨hroom, hn⟩ : c.n < c.rxBufBytes ∧ c.n + 1 = 4 + lenAfterStore c d := by
      simpa [rowCondition] using hcond
    exact decode_encode_data rfl rfl (decodePktData_last hroom hn)
  | crcDataLow d =>
    obtain ⟨hroom, hn⟩ : c.n < c.rxBufBytes ∧ c.n + 1 = 5 + lenAfterStore c d := by
      simpa [rowCondition] using hcond
    exact decode_encode_data rfl rfl (decodeCrcData_low hroom hn)
  | crcDataHigh d =>
    obtain ⟨hroom, hn⟩ : c.n < c.rxBufBytes ∧ c.n + 1 = 6 + lenAfterStore c d := by
      simpa [rowCondition] using hcond
    exact decode_encode_data rfl rfl (decodeCrcData_high hroom hn)
  | token => rfl
  | command => rfl
  | crcPass => rfl
  | crcError => rfl

/-- Settles O17: the words of the spec, read by their format's decoder. -/
theorem sampleWordsDecode : Obligations.SampleWordsDecode := by
  unfold Obligations.SampleWordsDecode
  exact ⟨rfl, rfl, rfl, rfl, rfl, rfl, rfl, rfl⟩

/-- An input word widened has no bit outside its format. -/
theorem setWidth_inputWord_fits (w : InputWord) :
    w.setWidth 16 &&& ~~~Format.inputWord.bits = 0#16 := by
  have hmask : ∀ i < 16, (~~~Format.inputWord.bits).getLsbD i = decide (11 ≤ i) := by decide
  refine BitVec.eq_of_getLsbD_eq fun i hi => ?_
  rw [BitVec.getLsbD_and, hmask i hi, BitVec.getLsbD_setWidth, BitVec.getLsbD_zero]
  by_cases h : 11 ≤ i
  · simp [BitVec.getLsbD_of_ge w i h]
  · simp [h]

theorem decode_setWidth_inputWord (w : InputWord) (c : Cond) :
    decode .inputWord c (w.setWidth 16) = .ok (decodeInput c.st w) := by
  have hback : (w.setWidth 16).extractLsb' 0 11 = w := by
    refine BitVec.eq_of_getLsbD_eq fun i hi => ?_
    simp [BitVec.getLsbD_setWidth, hi]
    omega
  rw [decode_inputWord (setWidth_inputWord_fits w), hback]

/-- Settles O18: `step` decodes the sampled word as the opcode table's decoder does. -/
theorem stepRunsTheDecodedInstruction : Obligations.StepRunsTheDecodedInstruction := by
  unfold Obligations.StepRunsTheDecodedInstruction
  intro s
  rw [decode_setWidth_inputWord]
  refine ⟨⟨_, rfl⟩, fun i hi => ?_⟩
  cases hi
  rfl

end Sys2Proof.Machine

namespace Sys2Proof.Machine

/-! ### What a decoded row says of its word -/

/-- What `DecodedWordsMatchTheirRow` says of one row. -/
def RowFits (f : Format) (c : Cond) (w : InstrWord) (i : Instr) : Prop :=
  i.format = f ∧ i.wellFormed = true ∧ rowCondition c i = true ∧ w &&& rowMask i = rowMatch i

/-- A narrow pattern that fits the low bits of a word fits the word, widened by zeros. -/
theorem and_setWidth_of_hits {k : Nat} {w : InstrWord} {m p : BitVec k}
    (h : hits (w.extractLsb' 0 k) m p = true) : w &&& m.setWidth 16 = p.setWidth 16 := by
  refine BitVec.eq_of_getLsbD_eq fun i hi => ?_
  rw [BitVec.getLsbD_and, BitVec.getLsbD_setWidth, BitVec.getLsbD_setWidth]
  by_cases hik : i < k
  · have hbit := hits_iff.mp h i hik
    rw [BitVec.getLsbD_extractLsb', Nat.zero_add, decide_eq_true hik, Bool.true_and] at hbit
    rw [decide_eq_true hi, Bool.true_and, Bool.true_and, hbit]
  · simp [BitVec.getLsbD_of_ge _ i (not_lt.mp hik)]

/-- R54: the row of an input word. -/
theorem rowFits_decodeInput (c : Cond) (w : InstrWord) :
    RowFits .inputWord c w (decodeInput c.st (w.extractLsb' 0 11)) := by
  have fits {m p : InputWord} (h : hits (w.extractLsb' 0 11) m p = true) :
      w &&& m.setWidth 16 = p.setWidth 16 := and_setWidth_of_hits h
  rw [decodeInput_eq]
  cases hrst : (w.extractLsb' 0 11).getLsbD 10 with
  | true => exact ⟨rfl, rfl, rfl, fits ((hits_resetPattern _).trans hrst)⟩
  | false =>
    cases hvalid : (w.extractLsb' 0 11).getLsbD 8 with
    | true =>
      refine ⟨rfl, rfl, rfl, fits ((hits_bytePattern _).trans ?_)⟩
      rw [hrst, hvalid]
      rfl
    | false =>
      cases htimeout : (w.extractLsb' 0 11).getLsbD 9 with
      | true =>
        have hrow : hits (w.extractLsb' 0 11) 0x700#11 0x200#11 = true := by
          rw [hits_timeoutPattern, hrst, hvalid, htimeout]
          rfl
        by_cases hst : c.st = .sync
        · simp only [hst, if_true, Bool.false_eq_true, if_false]
          exact ⟨rfl, rfl, beq_iff_eq.mpr hst, fits hrow⟩
        · simp only [hst, if_true, Bool.false_eq_true, if_false]
          exact ⟨rfl, rfl, bne_iff_ne.mpr hst, fits hrow⟩
      | false =>
        refine ⟨rfl, rfl, rfl, fits (m := 0x700#11) (p := 0x000#11) ?_⟩
        rw [hits_idlePattern, hrst, hvalid, htimeout]
        rfl

/-- R56: a symbol word is its flag and its byte. -/
theorem packWire_eta (w : WireWord) : packWire (w.getLsbD 8) (w.extractLsb' 0 8) = w := by
  refine BitVec.eq_of_getLsbD_eq fun i hi => ?_
  unfold packWire
  rw [BitVec.getLsbD_append]
  by_cases hlow : i < 8
  · simp [hlow]
  · obtain rfl : i = 8 := by omega
    simp

/-- R56: the row of a symbol word. -/
theorem rowFits_decodeWire (c : Cond) (w : InstrWord) :
    RowFits .wireSymbol c w (decodeWire (w.extractLsb' 0 9)) := by
  have fits {m p : WireWord} (h : hits (w.extractLsb' 0 9) m p = true) :
      w &&& m.setWidth 16 = p.setWidth 16 := and_setWidth_of_hits h
  rw [← packWire_eta (w.extractLsb' 0 9)] at fits ⊢
  generalize (w.extractLsb' 0 9).getLsbD 8 = e at fits ⊢
  generalize (w.extractLsb' 0 9).extractLsb' 0 8 = b at fits ⊢
  rw [decodeWire_packWire]
  cases e with
  | true => exact ⟨rfl, rfl, rfl, fits (hits_dataEscapedPattern true b)⟩
  | false =>
    by_cases hescape : b = Config.ESCAPE
    · subst hescape
      exact ⟨rfl, rfl, rfl, fits (m := 0x1FF#9) (p := 0x0FC#9) rfl⟩
    · by_cases hmarker : b = Config.MARKER
      · subst hmarker
        exact ⟨rfl, rfl, rfl, fits (m := 0x1FF#9) (p := 0x0FD#9) rfl⟩
      · have hrow : hits (packWire false b) 0x100#9 0x000#9 = true := by
          have hbit := hits_twoPow_zero (packWire false b) (by decide : 8 < 9)
          rw [packWire_esc] at hbit
          exact hbit
        simp only [Bool.false_eq_true, if_false, hescape, hmarker]
        refine ⟨rfl, ?_, rfl, fits hrow⟩
        simp [Instr.wellFormed, hescape, hmarker]

/-- R57: every selector is that of a state and a kind of symbol. -/
theorem exists_packFs (f : FsWord) : ∃ q m, f = packFs q m := by
  have hall : ∀ f : FsWord, f = packFs (fsmOfCode (f.extractLsb' 1 2)) (f.getLsbD 0) := by decide
  exact ⟨_, _, hall f⟩

/-- The selector of an fsm_select word under the table's mask. -/
theorem and_seven_of_selector {w : InstrWord} {q : Fsm} {m : Bool}
    (h : w.extractLsb' 0 3 = packFs q m) : w &&& 0x7#16 = (packFs q m).setWidth 16 := by
  have hrow : hits (w.extractLsb' 0 3) (BitVec.allOnes 3) (packFs q m) = true := by
    rw [hits_allOnes, h]
    exact beq_self_eq_true _
  exact and_setWidth_of_hits hrow

/-- R88, R89: the row of a MARKER mid-frame, by the policy. -/
theorem rowFits_byPolicy {c : Cond} {w : InstrWord} {i j : Instr}
    (hi : c.midMarker = .restart → RowFits .fsmSelect c w i)
    (hj : c.midMarker = .data → RowFits .fsmSelect c w j) :
    RowFits .fsmSelect c w (byPolicy c i j) := by
  cases hp : c.midMarker with
  | restart =>
    rw [byPolicy_of_restart hp]
    exact hi hp
  | data =>
    rw [byPolicy_of_data hp]
    exact hj hp

/-- R90-R94: the row of a DATA symbol in HDR. -/
theorem rowFits_decodeHdrData {c : Cond} {w : InstrWord} {d : Byte} {i : Instr}
    (hmask : w &&& 0x7#16 = 0x2#16) (h : decodeHdrData c d = .ok i) : RowFits .fsmSelect c w i := by
  unfold decodeHdrData at h
  split_ifs at h with hfull hover htwo hthree hbit
  · cases h
    exact ⟨rfl, rfl, beq_iff_eq.mpr hfull, hmask⟩
  · cases h
    refine ⟨rfl, rfl, ?_, hmask⟩
    simp only [rowCondition, Bool.and_eq_true, decide_eq_true_eq, beq_iff_eq]
    omega
  · cases h
    refine ⟨rfl, rfl, ?_, hmask⟩
    simp only [rowCondition, Bool.and_eq_true, decide_eq_true_eq, beq_iff_eq]
    exact ⟨by omega, hbit⟩
  · cases h
    refine ⟨rfl, rfl, ?_, hmask⟩
    simp only [rowCondition, Bool.and_eq_true, decide_eq_true_eq, beq_iff_eq, Bool.not_eq_true']
    exact ⟨by omega, eq_false_of_ne_true hbit⟩

/-- R90, R91, R95, R96: the row of a DATA symbol in PKT. -/
theorem rowFits_decodePktData {c : Cond} {w : InstrWord} {d : Byte} {i : Instr}
    (hmask : w &&& 0x7#16 = 0x4#16) (h : decodePktData c d = .ok i) : RowFits .fsmSelect c w i := by
  unfold decodePktData at h
  split_ifs at h with hfull hover hmore hlast
  · cases h
    exact ⟨rfl, rfl, beq_iff_eq.mpr hfull, hmask⟩
  · cases h
    refine ⟨rfl, rfl, ?_, hmask⟩
    simp only [rowCondition, Bool.and_eq_true, decide_eq_true_eq]
    omega
  · cases h
    refine ⟨rfl, rfl, ?_, hmask⟩
    simp only [rowCondition, Bool.and_eq_true, decide_eq_true_eq, beq_iff_eq]
    omega

/-- R90, R91, R97, R98: the row of a DATA symbol in CRC. -/
theorem rowFits_decodeCrcData {c : Cond} {w : InstrWord} {d : Byte} {i : Instr}
    (hmask : w &&& 0x7#16 = 0x6#16) (h : decodeCrcData c d = .ok i) : RowFits .fsmSelect c w i := by
  unfold decodeCrcData at h
  split_ifs at h with hfull hover hlow hhigh
  · cases h
    exact ⟨rfl, rfl, beq_iff_eq.mpr hfull, hmask⟩
  · cases h
    refine ⟨rfl, rfl, ?_, hmask⟩
    simp only [rowCondition, Bool.and_eq_true, decide_eq_true_eq, beq_iff_eq]
    omega
  · cases h
    refine ⟨rfl, rfl, ?_, hmask⟩
    simp only [rowCondition, Bool.and_eq_true, decide_eq_true_eq, beq_iff_eq]
    omega

/-- R57: the row of an fsm_select word. -/
theorem rowFits_decodeFsm {c : Cond} {w : InstrWord} {d : Byte} {i : Instr}
    (h : decodeFsm c (w.extractLsb' 0 3) d = .ok i) : RowFits .fsmSelect c w i := by
  obtain ⟨q, m, hsel⟩ := exists_packFs (w.extractLsb' 0 3)
  have hmask := and_seven_of_selector hsel
  rw [hsel] at h
  cases m with
  | true =>
    cases q with
    | sync =>
      cases h
      exact ⟨rfl, rfl, rfl, hmask⟩
    | hdr =>
      cases h
      exact rowFits_byPolicy (fun hp => ⟨rfl, rfl, beq_iff_eq.mpr hp, hmask⟩)
        fun hp => ⟨rfl, rfl, beq_iff_eq.mpr hp, hmask⟩
    | pkt =>
      cases h
      exact rowFits_byPolicy (fun hp => ⟨rfl, rfl, beq_iff_eq.mpr hp, hmask⟩)
        fun hp => ⟨rfl, rfl, beq_iff_eq.mpr hp, hmask⟩
    | crc =>
      cases h
      exact rowFits_byPolicy (fun hp => ⟨rfl, rfl, beq_iff_eq.mpr hp, hmask⟩)
        fun hp => ⟨rfl, rfl, beq_iff_eq.mpr hp, hmask⟩
  | false =>
    cases q with
    | sync =>
      cases h
      exact ⟨rfl, rfl, rfl, hmask⟩
    | hdr => exact rowFits_decodeHdrData hmask h
    | pkt => exact rowFits_decodePktData hmask h
    | crc => exact rowFits_decodeCrcData hmask h

/-- A word without a bit outside a format is its low bits. -/
theorem and_eq_of_extract {w : InstrWord} {m p : Byte} (h : hits (w.extractLsb' 0 8) m p = true) :
    w &&& m.setWidth 16 = p.setWidth 16 :=
  and_setWidth_of_hits h

/-- R64: the row of a header byte. -/
theorem rowFits_decodeHdr0 (c : Cond) (w : InstrWord) :
    RowFits .frameHdr0 c w (decodeHdr0 (w.extractLsb' 0 8)) := by
  have hone := hits_twoPow (w.extractLsb' 0 8) (by decide : 0 < 8)
  have hzero := hits_twoPow_zero (w.extractLsb' 0 8) (by decide : 0 < 8)
  unfold decodeHdr0
  split_ifs with htoken
  · exact ⟨rfl, rfl, rfl, and_eq_of_extract htoken⟩
  · have hbit : (w.extractLsb' 0 8).getLsbD 0 = true := by
      by_contra hbit
      rw [eq_false_of_ne_true hbit] at hzero
      exact htoken hzero
    exact ⟨rfl, rfl, rfl, and_eq_of_extract (hone.trans hbit)⟩

/-- R104: the row of a remainder. -/
theorem rowFits_decodeCrc (c : Cond) (w : InstrWord) : RowFits .crcCheck c w (decodeCrc w) := by
  unfold decodeCrc
  split_ifs with hpass
  · exact ⟨rfl, rfl, rfl, beq_iff_eq.mp hpass⟩
  · exact ⟨rfl, rfl, rfl, BitVec.and_zero⟩

/-- Settles O15: in each format the test that picked the row is the row's pattern and condition. -/
theorem decodedWordsMatchTheirRow : Obligations.DecodedWordsMatchTheirRow := by
  unfold Obligations.DecodedWordsMatchTheirRow
  intro f c w i h
  change RowFits f c w i
  unfold decode at h
  split_ifs at h
  cases f with
  | inputWord =>
    cases h
    exact rowFits_decodeInput c w
  | wireSymbol =>
    cases h
    exact rowFits_decodeWire c w
  | fsmSelect =>
    unfold decodeFsmWord at h
    split_ifs at h
    exact rowFits_decodeFsm h
  | frameHdr0 =>
    cases h
    exact rowFits_decodeHdr0 c w
  | crcCheck =>
    cases h
    exact rowFits_decodeCrc c w

/-! ### A symbol runs the row the table selects (R57, R90) -/

/-- What the block does with what the table's decoder answers for a DATA symbol (log entry 4). -/
def runRow : Except DecodeError Instr → State → Result
  | .ok i, s => exec i s
  | .error _, _ => .fault .undefinedState

theorem runRow_ite {p : Prop} [Decidable p] (a b : Except DecodeError Instr) (s : State) :
    runRow (if p then a else b) s = if p then runRow a s else runRow b s :=
  apply_ite (runRow · s) p a b

/-- R95: the table reads `L` after the store, as the dispatch does. -/
theorem lenAfterStore_condOf {s : State} (hn : s.n < s.buf.length) (d : Byte) :
    lenAfterStore (condOf s) d = payloadLen (storeByte d s) :=
  (payloadLen_storeByte_eq_cmdlen hn).symm

/-- R90, R91: the overflow row and the stop beyond the capacity, common to the three states that
store. -/
theorem runRow_ofRoom {s : State} {i : Instr} {rest : Except DecodeError Instr} {stored : Result}
    (hrest : BufRoom s → stored = runRow rest s) :
    (if BufFull s then exec i s else if ¬BufRoom s then .fault .undefinedState else stored) =
      runRow (if s.n = s.params.rxBufBytes then .ok i
        else if s.params.rxBufBytes < s.n then .error .noRow else rest) s := by
  rw [runRow_ite, runRow_ite]
  by_cases hfull : BufFull s
  · rw [if_pos hfull, if_pos hfull]
    rfl
  · by_cases hroom : BufRoom s
    · rw [if_neg hfull, if_neg hfull, if_neg (not_not_intro hroom), if_neg (by omega), hrest hroom]
    · rw [if_neg hfull, if_neg hfull, if_pos hroom, if_pos (by omega)]
      rfl

theorem hdrData_eq_runRow (s : State) (d : Byte) :
    hdrData d s = runRow (decodeHdrData (condOf s) d) s := by
  unfold hdrData decodeHdrData
  refine runRow_ofRoom (s := s) (i := .hdrDataOverflow d) fun _ => ?_
  rw [runRow_ite, runRow_ite]
  refine if_congr Iff.rfl rfl ?_
  change _ = if s.n + 1 = 3 then _ else _
  by_cases hthree : s.n + 1 = 3
  · have hbit : typeBit (storeByte d s) = BitVec.ofBool ((bufAt s 1).getLsbD 0) := by
      rw [typeBit_storeByte (by omega), typeBit_eq_ofBool]
    rw [if_pos hthree, if_pos hthree, hbit, runRow_ite]
    change _ =
      if (bufAt s 1).getLsbD 0 then exec (.hdrDataCommand d) s else exec (.hdrDataToken d) s
    cases (bufAt s 1).getLsbD 0 with
    | false => rfl
    | true => rfl
  · rw [if_neg hthree, if_neg hthree]
    rfl

theorem pktData_eq_runRow {s : State} (hlen : s.buf.length = s.params.rxBufBytes) (d : Byte) :
    pktData d s = runRow (decodePktData (condOf s) d) s := by
  unfold pktData decodePktData
  refine runRow_ofRoom (s := s) (i := .pktDataOverflow d) fun hroom => ?_
  rw [lenAfterStore_condOf (by omega), runRow_ite, runRow_ite]
  rfl

theorem crcData_eq_runRow {s : State} (hlen : s.buf.length = s.params.rxBufBytes) (d : Byte) :
    crcData d s = runRow (decodeCrcData (condOf s) d) s := by
  unfold crcData decodeCrcData
  refine runRow_ofRoom (s := s) (i := .crcDataOverflow d) fun hroom => ?_
  rw [lenAfterStore_condOf (by omega), runRow_ite, runRow_ite]
  rfl

/-- R57: the dispatch of a DATA symbol is the table's. -/
theorem symData_eq_runRow {s : State} (hlen : s.buf.length = s.params.rxBufBytes) (d : Byte) :
    symData d s = runRow (decodeFsm (condOf s) (fsWord s false) d) s := by
  unfold symData fsWord
  cases s.st with
  | sync => rfl
  | hdr => exact hdrData_eq_runRow s d
  | pkt => exact pktData_eq_runRow hlen d
  | crc => exact crcData_eq_runRow hlen d

/-- R57, R88, R89: the dispatch of a MARKER symbol is the table's. -/
theorem symMarker_eq_exec_row (s : State) (d : Byte) :
    ∃ i, decodeFsm (condOf s) (fsWord s true) d = .ok i ∧ symMarker s = exec i s := by
  unfold symMarker fsWord
  cases s.st with
  | sync => exact ⟨_, decodeFsm_sync_marker _ d, rfl⟩
  | hdr =>
    refine ⟨_, decodeFsm_hdr_marker _ d, ?_⟩
    cases hp : s.params.midMarker with
    | restart => rw [byPolicy_of_restart hp]; rfl
    | data => rw [byPolicy_of_data hp]; rfl
  | pkt =>
    refine ⟨_, decodeFsm_pkt_marker _ d, ?_⟩
    cases hp : s.params.midMarker with
    | restart => rw [byPolicy_of_restart hp]; rfl
    | data => rw [byPolicy_of_data hp]; rfl
  | crc =>
    refine ⟨_, decodeFsm_crc_marker _ d, ?_⟩
    cases hp : s.params.midMarker with
    | restart => rw [byPolicy_of_restart hp]; rfl
    | data => rw [byPolicy_of_data hp]; rfl

/-- Settles O13: the dispatch's tests are the table's conditions in the table's order. -/
theorem symbolsRunTheSelectedRow : Obligations.SymbolsRunTheSelectedRow := by
  unfold Obligations.SymbolsRunTheSelectedRow
  intro s d hlen
  rw [symData_eq_runRow hlen]
  refine ⟨fun i hi => ?_, fun e he => ?_, symMarker_eq_exec_row s d⟩
  · rw [hi]
    rfl
  · rw [he]
    rfl

/-! ### Where a row is not selected (log entries 6, 10, 11) -/

/-- A row of format fsm_select is selected: its selector is the state's, and the rest of the row
holds. -/
def FsmRowSelected (s : State) (i : Instr) : Prop :=
  (rowMatch i).extractLsb' 1 2 = fsmCode s.st ∧ rowCondition (condOf s) i = true

theorem packFs_state (q : Fsm) (m : Bool) :
    ((packFs q m).setWidth 16).extractLsb' 1 2 = fsmCode q := by
  cases q <;> cases m <;> rfl

theorem fsmRowSelected_of {s : State} {i : Instr} {q : Fsm} (m : Bool) (hst : s.st = q)
    (hrow : rowMatch i = (packFs q m).setWidth 16) (hcond : rowCondition (condOf s) i = true) :
    FsmRowSelected s i :=
  ⟨by rw [hrow, hst, packFs_state], hcond⟩

/-- R64: the type bit as the bit of hdr0. -/
theorem typeBit_eq_zero_iff (s : State) : typeBit s = 0#1 ↔ (bufAt s 1).getLsbD 0 = false := by
  rw [typeBit_eq_ofBool]
  cases (bufAt s 1).getLsbD 0 with
  | false => decide
  | true => decide

theorem typeBit_eq_one_iff (s : State) : typeBit s = 1#1 ↔ (bufAt s 1).getLsbD 0 = true := by
  rw [typeBit_eq_ofBool]
  cases (bufAt s 1).getLsbD 0 with
  | false => decide
  | true => decide

/-- A meaning by `whenSelected` stops wherever the table does not select the row. -/
theorem whenSelected_stops {c p : Prop} [Decidable c] {t : State} (hp : ¬p) (hcp : c → p) :
    whenSelected c t = .fault .rowNotSelected :=
  whenSelected_of_not (mt hcp hp)

/-- Each fsm_select row's own test implies the table's. -/
theorem fsmRow_stops {s : State} (hlen : s.buf.length = s.params.rxBufBytes) {i : Instr}
    (hformat : i.format = .fsmSelect) (hnot : ¬FsmRowSelected s i) :
    exec i s = .fault .rowNotSelected := by
  have len (d : Byte) (hroom : BufRoom s) :
      payloadLen (storeByte d s) = lenAfterStore (condOf s) d :=
    (lenAfterStore_condOf (by omega) d).symm
  have fits {p : Prop} [Decidable p] (hroom : BufRoom s) (hp : p) :
      (decide (s.n < s.params.rxBufBytes) && decide p) = true :=
    Bool.and_eq_true_iff.mpr ⟨decide_eq_true hroom, decide_eq_true hp⟩
  have bit {d : Byte} (hn : s.n + 1 = 3) : typeBit (storeByte d s) = typeBit s :=
    typeBit_storeByte (by omega)
  cases i with
  | syncMarker => exact whenSelected_stops hnot fun hst => fsmRowSelected_of true hst rfl rfl
  | syncData d => exact whenSelected_stops hnot fun hst => fsmRowSelected_of false hst rfl rfl
  | hdrMarkerRestart =>
    exact whenSelected_stops hnot fun ⟨hst, hp⟩ =>
      fsmRowSelected_of true hst rfl (beq_iff_eq.mpr hp)
  | pktMarkerRestart =>
    exact whenSelected_stops hnot fun ⟨hst, hp⟩ =>
      fsmRowSelected_of true hst rfl (beq_iff_eq.mpr hp)
  | crcMarkerRestart =>
    exact whenSelected_stops hnot fun ⟨hst, hp⟩ =>
      fsmRowSelected_of true hst rfl (beq_iff_eq.mpr hp)
  | hdrMarkerData =>
    exact if_neg fun ⟨hst, hp⟩ => hnot (fsmRowSelected_of true hst rfl (beq_iff_eq.mpr hp))
  | pktMarkerData =>
    exact if_neg fun ⟨hst, hp⟩ => hnot (fsmRowSelected_of true hst rfl (beq_iff_eq.mpr hp))
  | crcMarkerData =>
    exact if_neg fun ⟨hst, hp⟩ => hnot (fsmRowSelected_of true hst rfl (beq_iff_eq.mpr hp))
  | hdrDataOverflow d =>
    exact whenSelected_stops hnot fun ⟨hst, hfull⟩ =>
      fsmRowSelected_of false hst rfl (beq_iff_eq.mpr hfull)
  | pktDataOverflow d =>
    exact whenSelected_stops hnot fun ⟨hst, hfull⟩ =>
      fsmRowSelected_of false hst rfl (beq_iff_eq.mpr hfull)
  | crcDataOverflow d =>
    exact whenSelected_stops hnot fun ⟨hst, hfull⟩ =>
      fsmRowSelected_of false hst rfl (beq_iff_eq.mpr hfull)
  | hdrDataHdr0 d =>
    exact whenSelected_stops hnot fun ⟨⟨hst, hroom⟩, hn⟩ =>
      fsmRowSelected_of false hst rfl (fits hroom hn)
  | hdrDataToken d =>
    refine whenSelected_stops hnot fun ⟨⟨hst, hroom⟩, hn, htype⟩ =>
      fsmRowSelected_of false hst rfl ?_
    have hbit := (typeBit_eq_zero_iff s).mp ((bit hn).symm.trans htype)
    exact Bool.and_eq_true_iff.mpr ⟨fits hroom hn, congrArg (!·) hbit⟩
  | hdrDataCommand d =>
    refine whenSelected_stops hnot fun ⟨⟨hst, hroom⟩, hn, htype⟩ =>
      fsmRowSelected_of false hst rfl ?_
    have hbit := (typeBit_eq_one_iff s).mp ((bit hn).symm.trans htype)
    exact Bool.and_eq_true_iff.mpr ⟨fits hroom hn, hbit⟩
  | pktDataMore d =>
    exact whenSelected_stops hnot fun ⟨⟨hst, hroom⟩, hn⟩ =>
      fsmRowSelected_of false hst rfl (fits hroom (len d hroom ▸ hn))
  | pktDataLast d =>
    exact whenSelected_stops hnot fun ⟨⟨hst, hroom⟩, hn⟩ =>
      fsmRowSelected_of false hst rfl (fits hroom (len d hroom ▸ hn))
  | crcDataLow d =>
    exact whenSelected_stops hnot fun ⟨⟨hst, hroom⟩, hn⟩ =>
      fsmRowSelected_of false hst rfl (fits hroom (len d hroom ▸ hn))
  | crcDataHigh d =>
    exact whenSelected_stops hnot fun ⟨⟨hst, hroom⟩, hn⟩ =>
      fsmRowSelected_of false hst rfl (fits hroom (len d hroom ▸ hn))
  | _ => exact absurd hformat (by simp [Instr.format])

/-- Settles O44: every meaning below input_word is guarded by the test that selects its row. -/
theorem rowsStopWhereNotSelected : Obligations.RowsStopWhereNotSelected := by
  unfold Obligations.RowsStopWhereNotSelected
  intro s hlen
  refine ⟨fun i hformat hnot => fsmRow_stops hlen hformat hnot, fun b hesc => ?_,
    fun hesc => ⟨?_, ?_⟩, fun b hb => ?_, fun hnot => ?_, fun hnot => ⟨?_, ?_⟩, fun hbit => ?_,
    fun hnot => ?_, fun hst => ?_, fun hst => ?_⟩
  · exact if_neg (by simp [hesc])
  · exact whenSelected_of_not (by simp [hesc])
  · exact if_neg (by simp [hesc])
  · refine if_neg fun ⟨hesc, hescape, hmarker⟩ => ?_
    rcases hb with hb | hb | hb
    · exact absurd (hesc.symm.trans hb) (by decide)
    · exact hescape hb
    · exact hmarker hb
  · exact whenSelected_stops hnot fun ⟨hst, hn, htype⟩ =>
      ⟨hst, hn, (typeBit_eq_zero_iff s).mp htype⟩
  · exact whenSelected_stops hnot fun ⟨⟨hst, hn⟩, hpass⟩ => ⟨hst, hn, hpass⟩
  · exact whenSelected_stops hnot fun ⟨⟨hst, hn⟩, hpass, _⟩ => ⟨hst, hn, hpass⟩
  · have htype : typeBit s = 0#1 := (typeBit_eq_zero_iff s).mpr hbit
    exact whenSelected_of_not fun ⟨_, _, hone⟩ => absurd (htype.symm.trans hone) (by decide)
  · exact whenSelected_stops hnot fun ⟨⟨hst, hn⟩, hfail⟩ => ⟨hst, hn, hfail⟩
  · exact congrArg Host.Outcome.next (if_neg (not_not_intro hst))
  · exact congrArg Host.Outcome.next (if_neg hst)

end Sys2Proof.Machine

namespace Sys2Proof.Machine

/-! ### Escaping and unescaping (R78-R82, R119, R125, R126) -/

theorem classify_escaped (b : Byte) : classify true b = (some (.data (b ||| 0x80#8)), false) := rfl

theorem classify_escape : classify false Config.ESCAPE = (none, true) := rfl

theorem classify_marker : classify false Config.MARKER = (some .marker, false) := rfl

theorem classify_plain {b : Byte} (hescape : b ≠ Config.ESCAPE) (hmarker : b ≠ Config.MARKER) :
    classify false b = (some (.data b), false) :=
  (if_neg (by decide)).trans ((if_neg hescape).trans (if_neg hmarker))

/-- R119: the wire form of a byte is an escape pair that restores it, or the byte itself. -/
theorem escByte_cases (b : Byte) :
    (∃ x, escByte b = [Config.ESCAPE, x] ∧ x ||| 0x80#8 = b ∧ x ≠ Config.MARKER)
    ∨ (escByte b = [b] ∧ b ≠ Config.ESCAPE ∧ b ≠ Config.MARKER) := by
  unfold escByte
  by_cases hmarker : b = Config.MARKER
  · subst hmarker
    exact .inl ⟨_, rfl, by decide, by decide⟩
  · by_cases hescape : b = Config.ESCAPE
    · subst hescape
      exact .inl ⟨_, rfl, by decide, by decide⟩
    · exact .inr ⟨if_neg (not_or.mpr ⟨hmarker, hescape⟩), hescape, hmarker⟩

theorem classifyAll_cons (e : Bool) (b : Byte) (bs : List Byte) :
    classifyAll e (b :: bs) =
      ((classify e b).1.toList ++ (classifyAll (classify e b).2 bs).1,
        (classifyAll (classify e b).2 bs).2) := rfl

theorem classifyAll_append (e : Bool) (as bs : List Byte) :
    classifyAll e (as ++ bs) =
      ((classifyAll e as).1 ++ (classifyAll (classifyAll e as).2 bs).1,
        (classifyAll (classifyAll e as).2 bs).2) := by
  induction as generalizing e with
  | nil => rfl
  | cons a as ih =>
    rw [List.cons_append, classifyAll_cons, ih, classifyAll_cons]
    simp

/-- R82: the wire form of a byte after the first classifies to that byte as DATA. -/
theorem classifyAll_escByte (b : Byte) : classifyAll false (escByte b) = ([.data b], false) := by
  rcases escByte_cases b with ⟨x, hform, hrestored, -⟩ | ⟨hform, hescape, hmarker⟩
  · rw [hform, classifyAll_cons, classify_escape, classifyAll_cons, classify_escaped, hrestored]
    rfl
  · rw [hform, classifyAll_cons, classify_plain hescape hmarker]
    rfl

theorem classifyAll_flatMap_escByte (us : List Byte) :
    classifyAll false (us.flatMap escByte) = (us.map .data, false) := by
  induction us with
  | nil => rfl
  | cons u us ih =>
    rw [List.flatMap_cons, classifyAll_append, classifyAll_escByte, ih]
    rfl

/-- R82: the wire form of a sequence that starts with the marker. -/
theorem classifyAll_escEncode_marker (us : List Byte) :
    classifyAll false (escEncode (Config.MARKER :: us)) = (.marker :: us.map .data, false) := by
  change classifyAll false (Config.MARKER :: us.flatMap escByte) = _
  rw [classifyAll_cons, classify_marker, classifyAll_flatMap_escByte]
  rfl

/-- Settles O31: a BYTE runs the classifier's symbol, and the classifier undoes the escape encoding
byte by byte. -/
theorem unescapeInvertsEscape : Obligations.UnescapeInvertsEscape := by
  unfold Obligations.UnescapeInvertsEscape
  refine ⟨fun s b => ?_, fun u => classifyAll_escEncode_marker u⟩
  rw [exec_byte_eq_runSymbol]
  rcases classify s.esc b with ⟨_ | ⟨d⟩ | _, e⟩
  · rfl
  · rfl
  · rfl

theorem length_escByte (b : Byte) :
    (escByte b).length = 1 + if b == 0xFC#8 || b == 0xFD#8 then 1 else 0 := by
  change _ = 1 + if b == Config.ESCAPE || b == Config.MARKER then 1 else 0
  unfold escByte
  by_cases h : b = Config.MARKER ∨ b = Config.ESCAPE
  · rw [if_pos h, if_pos (by simpa using h.symm)]
    rfl
  · rw [if_neg h, if_neg (by simpa using mt Or.symm h)]
    rfl

/-- Settles O54: by induction, each escaped byte costing one more. -/
theorem escapeOverhead : Obligations.EscapeOverhead := by
  unfold Obligations.EscapeOverhead
  intro u0 us
  change (us.flatMap escByte).length + 1 = us.length + 1 + _
  induction us with
  | nil => rfl
  | cons u us ih =>
    rw [List.flatMap_cons, List.length_append, length_escByte, List.length_cons, List.filter_cons]
    split_ifs with h
    · rw [List.length_cons]
      omega
    · omega

theorem marker_not_mem_escByte (b : Byte) : Config.MARKER ∉ escByte b := by
  rcases escByte_cases b with ⟨x, hform, -, hx⟩ | ⟨hform, -, hb⟩
  · rw [hform]
    simp [Config.ESCAPE, Config.MARKER] at hx ⊢
    exact fun h => hx h.symm
  · rw [hform]
    exact fun h => hb (List.mem_singleton.mp h).symm

theorem marker_not_mem_flatMap_escByte (us : List Byte) : Config.MARKER ∉ us.flatMap escByte := by
  rw [List.mem_flatMap]
  rintro ⟨u, -, hu⟩
  exact marker_not_mem_escByte u hu

/-- R126: the wire form of any sequence that starts with the marker holds it once. -/
theorem escEncode_marker_has_one (us : List Byte) :
    ∃ bs, escEncode (Config.MARKER :: us) = 0xFD#8 :: bs ∧ 0xFD#8 ∉ bs
      ∧ ∃ ds : List Byte,
        classifyAll false (escEncode (Config.MARKER :: us)) = (.marker :: ds.map .data, false) :=
  ⟨_, rfl, marker_not_mem_flatMap_escByte us, us, classifyAll_escEncode_marker us⟩

/-- Settles O55: both raw frames start with the marker. -/
theorem serializedFramesHaveOneMarker : Obligations.SerializedFramesHaveOneMarker := by
  unfold Obligations.SerializedFramesHaveOneMarker
  exact ⟨fun f => escEncode_marker_has_one _, fun k f _ => escEncode_marker_has_one _⟩

/-! ### Feeds of bytes -/

/-- The step of a wire byte, by its symbol. -/
theorem stepOn_byte (b : Byte) (s : State) :
    stepOn (packInput false false true b) s =
      runSymbol (classify s.esc b).1 { s with evCode := EV_NONE, esc := (classify s.esc b).2 } :=
  (stepOn_packInput_byte false b s).trans (exec_byte_eq_runSymbol b _)

/-- R87, R146: in SYNC a byte that is no MARKER symbol moves the escape flag alone. -/
theorem stepOn_byte_of_sync {b : Byte} {s : State} (hst : s.st = .sync)
    (hb : Symbol.marker ∉ (classify s.esc b).1.toList) :
    stepOn (packInput false false true b) s =
      .next { s with esc := (classify s.esc b).2, evCode := 0#3 } := by
  rw [stepOn_byte]
  rcases hclass : (classify s.esc b).1 with - | d | -
  · rfl
  · exact symData_of_sync (s := { s with evCode := EV_NONE, esc := (classify s.esc b).2 }) hst d
  · rw [hclass] at hb
    exact absurd (List.mem_singleton.mpr rfl) hb

/-- Settles O32: by induction over the stream, every byte leaving the reader in SYNC. -/
theorem syncDiscardsUntilAMarker : Obligations.SyncDiscardsUntilAMarker := by
  unfold Obligations.SyncDiscardsUntilAMarker
  intro s bs
  induction bs generalizing s with
  | nil => exact fun _ hne => absurd rfl hne
  | cons b bs ih =>
    intro hst _ hmarker
    rw [classifyAll_cons] at hmarker ⊢
    obtain ⟨hb, hbs⟩ := not_or.mp (mt List.mem_append.mpr hmarker)
    change feed (packInput false false true b :: byteSteps bs) s = _
    rw [feed_cons_of (stepOn_byte_of_sync hst hb)]
    cases bs with
    | nil => rfl
    | cons b' bs => exact ih _ hst (by simp) hbs

/-! ### IDLE steps (R154) -/

/-- The prologue of R72 overwrites the event, so a step does not read it. -/
theorem stepOn_evCode (w : InputWord) (s : State) (c : BitVec 3) :
    stepOn w { s with evCode := c } = stepOn w s := rfl

/-- An IDLE step before another word is a step nobody sees. -/
theorem feed_idle_cons (s : State) (d : Byte) (v : InputWord) (vs : List InputWord) :
    feed (packInput false false false d :: v :: vs) s = feed (v :: vs) s := by
  rw [feed_cons_of ((stepOn_packInput_idle d s).trans (exec_idle _))]
  unfold feed
  rw [stepOn_evCode]

/-- Settles O22: by induction over the words before the IDLE step. -/
theorem idleStepsAreTransparent : Obligations.IdleStepsAreTransparent := by
  unfold Obligations.IdleStepsAreTransparent
  intro s ws vs v d
  induction ws generalizing s with
  | nil => exact feed_idle_cons s d v vs
  | cons w ws ih =>
    rw [List.cons_append, List.cons_append]
    unfold feed
    cases stepOn w s with
    | next t => exact ih t
    | fault r => rfl
    | refused r => rfl

end Sys2Proof.Machine

namespace Sys2Proof.Machine

/-! ### The CRC (R101-R103, R117) -/

/-- Settles O47: the source's two vectors and R101's single steps, evaluated. -/
theorem crcCheckValues : Obligations.CrcCheckValues := by
  unfold Obligations.CrcCheckValues
  simp [crc16, crcUpdate, crcShifts, crcShift, Config.CRC_INIT, Config.CRC_POLY_REFLECTED]

/-- The shifted-out bit decides whether the polynomial is added, and only the polynomial has bit 15.
-/
theorem crcShift_top (c : CrcWord) : (crcShift c).getLsbD 15 = c.getLsbD 0 := by
  have hpoly : Config.CRC_POLY_REFLECTED.getLsbD 15 = true := by decide
  unfold crcShift
  split_ifs with hbit
  · rw [BitVec.getLsbD_xor, hpoly, hbit]
    simp
  · rw [eq_false_of_ne_true hbit]
    simp

/-- No two states of the CRC shift to the same one: bit 15 tells the bit lost. -/
theorem crcShift_injective : Function.Injective crcShift := by
  intro a b h
  have hzero : a.getLsbD 0 = b.getLsbD 0 := by
    rw [← crcShift_top, ← crcShift_top, h]
  have hrest : a >>> 1 = b >>> 1 := by
    unfold crcShift at h
    rw [hzero] at h
    split_ifs at h
    · exact (BitVec.xor_left_inj _).mp h
    · exact h
  refine BitVec.eq_of_getLsbD_eq fun i hi => ?_
  cases i with
  | zero => exact hzero
  | succ i =>
    have hbit := congrArg (·.getLsbD i) hrest
    simpa [BitVec.getLsbD_ushiftRight, Nat.add_comm] using hbit

theorem crcShifts_injective (k : Nat) : Function.Injective (crcShifts k) := by
  induction k with
  | zero => exact fun _ _ h => h
  | succ k ih => exact ih.comp crcShift_injective

/-- A zero bit shifts out without the polynomial. -/
theorem crcShift_of_even {c : CrcWord} (h : c.getLsbD 0 = false) : crcShift c = c >>> 1 :=
  if_neg (ne_true_of_eq_false h)

/-- `k` zero bits shift out without the polynomial. -/
theorem crcShifts_of_low_zero {k : Nat} {c : CrcWord} (h : ∀ i < k, c.getLsbD i = false) :
    crcShifts k c = c >>> k := by
  induction k generalizing c with
  | zero => rfl
  | succ k ih =>
    have hlow : ∀ i < k, (c >>> 1).getLsbD i = false := by
      intro i hi
      rw [BitVec.getLsbD_ushiftRight]
      exact h (1 + i) (by omega)
    change crcShifts k (crcShift c) = _
    rw [crcShift_of_even (h 0 (by omega)), ih hlow, ← BitVec.shiftRight_add, Nat.add_comm]

theorem crcShifts_zero (k : Nat) : crcShifts k 0x0000#16 = 0x0000#16 := by
  rw [crcShifts_of_low_zero fun _ _ => BitVec.getLsbD_zero]
  simp

/-- A CRC word is its high byte beside its low byte. -/
theorem append_bytes (c : CrcWord) : c.extractLsb' 8 8 ++ c.extractLsb' 0 8 = c := by
  refine BitVec.eq_of_getLsbD_eq fun i hi => ?_
  rw [BitVec.getLsbD_append]
  by_cases hlow : i < 8
  · simp [hlow]
  · simp [hlow, show i - 8 < 8 by omega, show 8 + (i - 8) = i by omega]

theorem append_bytes_inj {x y x' y' : Byte} : y ++ x = y' ++ x' ↔ x = x' ∧ y = y' := by
  constructor
  · intro h
    have hlow := congrArg (·.extractLsb' 0 8) h
    have hhigh := congrArg (·.extractLsb' 8 8) h
    simp only [BitVec.extractLsb'_append_eq_right] at hlow
    simp only [BitVec.extractLsb'_append_eq_left] at hhigh
    exact ⟨hlow, hhigh⟩
  · rintro ⟨rfl, rfl⟩
    rfl

theorem append_xor_setWidth (x y b : Byte) :
    (y ++ x : CrcWord) ^^^ b.setWidth 16 = y ++ (x ^^^ b) := by
  refine BitVec.eq_of_getLsbD_eq fun i hi => ?_
  rw [BitVec.getLsbD_xor, BitVec.getLsbD_append, BitVec.getLsbD_append, BitVec.getLsbD_setWidth]
  by_cases hlow : i < 8
  · simp [hlow, hi]
  · simp [hlow, hi, BitVec.getLsbD_of_ge b i (by omega)]

/-- A byte equal to the CRC's low byte leaves the CRC's high byte alone. -/
theorem crcUpdate_self (x y : Byte) : crcUpdate (y ++ x) x = y.setWidth 16 := by
  unfold crcUpdate
  rw [append_xor_setWidth, BitVec.xor_self, crcShifts_of_low_zero]
  · refine BitVec.eq_of_getLsbD_eq fun i hi => ?_
    rw [BitVec.getLsbD_ushiftRight, BitVec.getLsbD_append]
    simp [hi]
  · intro i hi
    rw [BitVec.getLsbD_append, if_pos hi, BitVec.getLsbD_zero]

/-- R103, for one byte: only the high byte's update that equals it gives zero. -/
theorem crcUpdate_eq_zero_iff (c : CrcWord) (b : Byte) :
    crcUpdate c b = 0x0000#16 ↔ c = b.setWidth 16 := by
  unfold crcUpdate
  rw [← crcShifts_zero 8, (crcShifts_injective 8).eq_iff, BitVec.xor_eq_zero_iff]

/-- R103, for one byte: the remainder fits one byte exactly when the byte added is the low byte. -/
theorem crcUpdate_eq_setWidth_iff (x y x' y' : Byte) :
    crcUpdate (y ++ x) x' = y'.setWidth 16 ↔ x' = x ∧ y' = y := by
  constructor
  · intro h
    rw [← crcUpdate_self x' y'] at h
    have hsame : (y ++ x : CrcWord) ^^^ x'.setWidth 16 = (y' ++ x') ^^^ x'.setWidth 16 :=
      crcShifts_injective 8 h
    obtain ⟨hlow, hhigh⟩ := append_bytes_inj.mp ((BitVec.xor_left_inj _).mp hsame)
    exact ⟨hlow.symm, hhigh.symm⟩
  · rintro ⟨rfl, rfl⟩
    exact crcUpdate_self x' y'

/-- R103, over the CRC of the bytes before. -/
theorem crc16_append_two_eq_zero_iff (u : List Byte) (x y : Byte) :
    crc16 (u ++ [x, y]) = 0x0000#16 ↔ crc16 u = y ++ x := by
  rw [crc16_append_two, crcUpdate_eq_zero_iff, ← append_bytes (crc16 u), crcUpdate_eq_setWidth_iff,
    append_bytes_inj, eq_comm, eq_comm (a := y)]

/-- Settles O48: a shift loses no information, so only the CRC's own two bytes cancel it. -/
theorem zeroRemainder : Obligations.ZeroRemainder := by
  unfold Obligations.ZeroRemainder
  intro u x y
  rw [crc16_append_two_eq_zero_iff, ← append_bytes (crc16 u), append_bytes_inj, eq_comm,
    eq_comm (b := y)]
  simp [append_bytes]

/-- R104: the checked bytes are those before the stored CRC, and its two bytes. -/
theorem checkedBytes_eq_append {s : State} (hlen : 6 + payloadLen s ≤ s.buf.length) :
    checkedBytes s = (s.buf.take (4 + payloadLen s)).drop (crcStart s.params.crcCoversMarker)
      ++ [bufAt s (4 + payloadLen s), bufAt s (5 + payloadLen s)] := by
  have hlast (i : Nat) (hi : i < s.buf.length) :
      s.buf.take (i + 1) = s.buf.take i ++ [bufAt s i] := by
    rw [List.take_succ_eq_append_getElem hi, bufAt, List.getD_eq_getElem _ _ hi]
  have hstart : crcStart s.params.crcCoversMarker ≤ (s.buf.take (4 + payloadLen s)).length := by
    rw [List.length_take]
    unfold crcStart
    split_ifs <;> omega
  have htake : s.buf.take (6 + payloadLen s) = s.buf.take (4 + payloadLen s)
      ++ [bufAt s (4 + payloadLen s), bufAt s (5 + payloadLen s)] := by
    rw [show 6 + payloadLen s = 5 + payloadLen s + 1 by omega, hlast _ (by omega),
      show s.buf.take (5 + payloadLen s) = s.buf.take (4 + payloadLen s + 1) by congr 1; omega,
      hlast _ (by omega), List.append_assoc]
    rfl
  unfold checkedBytes
  rw [htake, List.drop_append_of_le_length hstart]

/-- Settles O49: the zero remainder of R103 over the bytes the check runs over. -/
theorem crcCheckComparesTheStoredCrc : Obligations.CrcCheckComparesTheStoredCrc := by
  unfold Obligations.CrcCheckComparesTheStoredCrc
  intro s l hl hlen
  change l = payloadLen s at hl
  subst hl
  unfold remainder
  rw [checkedBytes_eq_append hlen, crc16_append_two_eq_zero_iff]
  rfl

/-! ### The rows of a complete frame (R105-R108) -/

/-- R107, field by field. -/
theorem emitToken_fields (s : State) :
    emitToken s =
      { s with
        frmKind := 0#1
        frmDest := (bufAt s 1).extractLsb' 2 6, frmBcast := (bufAt s 1).extractLsb' 1 1
        frmSrc := (bufAt s 2).extractLsb' 2 6, frmSeq := (bufAt s 2).extractLsb' 0 2
        frmCmd := 0#4, frmLen := 0#4, frmPayload := List.replicate 15 0x00#8
        cntFrames := (s.cntFrames + 1) % 2 ^ s.params.cntW, evCode := 1#3 } := rfl

/-- R108, field by field. -/
theorem emitCommand_fields (s : State) :
    emitCommand s =
      { s with
        frmKind := 1#1
        frmDest := (bufAt s 1).extractLsb' 2 6, frmBcast := (bufAt s 1).extractLsb' 1 1
        frmSrc := (bufAt s 2).extractLsb' 2 6, frmSeq := (bufAt s 2).extractLsb' 0 2
        frmCmd := (bufAt s 3).extractLsb' 4 4, frmLen := (bufAt s 3).extractLsb' 0 4
        frmPayload := payloadBytes s
        cntFrames := (s.cntFrames + 1) % 2 ^ s.params.cntW, evCode := 2#3 } := rfl

/-- Settles O51: the row is selected, and its effect is R107's fields. -/
theorem completeTokenIsEmitted : Obligations.CompleteTokenIsEmitted := by
  unfold Obligations.CompleteTokenIsEmitted
  intro s hst hn hbit
  rw [← emitToken_fields]
  exact whenSelected_of ⟨hst, hn, (typeBit_eq_zero_iff s).mpr hbit⟩

/-- Settles O50: the remainder selects the row, and the buffer holds the whole payload. -/
theorem completeCommandIsEmittedOrCounted : Obligations.CompleteCommandIsEmittedOrCounted := by
  unfold Obligations.CompleteCommandIsEmittedOrCounted
  intro s t l hst hl hn hlen ht
  change l = payloadLen s at hl
  subst hl
  rw [← payloadBytes_eq_append (by omega), ← emitCommand_fields] at ht
  subst ht
  exact ⟨fun hpass => ⟨whenSelected_of ⟨⟨hst, hn⟩, hpass⟩,
      fun hbit => whenSelected_of ⟨⟨hst, hn⟩, hpass, (typeBit_eq_one_iff s).mpr hbit⟩⟩,
    fun hfail => whenSelected_of ⟨⟨hst, hn⟩, hfail⟩⟩

end Sys2Proof.Machine

namespace Sys2Proof.Machine

/-! ### Steps that go the same way from related states

A relation that the start of a frame, a timeout, a RESET and the rows of a DATA symbol preserve is
preserved by every step. -/

/-- The relation `R` steers no choice of a step and is preserved by each of its effects. -/
structure Simulates (R : State → State → Prop) : Prop where
  st : ∀ {s s'}, R s s' → s'.st = s.st
  esc : ∀ {s s'}, R s s' → s'.esc = s.esc
  midMarker : ∀ {s s'}, R s s' → s'.params.midMarker = s.params.midMarker
  withEvCode : ∀ {s s'} {c : BitVec 3}, c ≠ 7#3 → R s s' →
    R { s with evCode := c } { s' with evCode := c }
  withEsc : ∀ {s s'} (e : Bool), R s s' → R { s with esc := e } { s' with esc := e }
  reset : ∀ {s s'}, R s s' → R { State.resetWith s.params with inputs := s.inputs }
    { State.resetWith s'.params with inputs := s'.inputs }
  timeout : ∀ {s s'}, R s s' → R (takeError .incomplete s) (takeError .incomplete s')
  start : ∀ {s s'}, R s s' → R (start s) (start s')
  data : ∀ {s s' t d}, R s s' → DataStep d s t → ∃ t', DataStep d s' t' ∧ R t t'

section
variable {R : State → State → Prop}

theorem Simulates.symData (hR : Simulates R) {s s' t : State} {d : Byte} (h : R s s')
    (ht : symData d s = .next t) : ∃ t', symData d s' = .next t' ∧ R t t' := by
  obtain ⟨t', ht', hrel⟩ := hR.data h (symData_eq_next_iff.mp ht)
  exact ⟨t', symData_eq_next_iff.mpr ht', hrel⟩

theorem Simulates.symMarker (hR : Simulates R) {s s' t : State} (h : R s s')
    (ht : symMarker s = .next t) : ∃ t', symMarker s' = .next t' ∧ R t t' := by
  have hst := hR.st h
  have hpolicy := hR.midMarker h
  rcases symMarker_next ht with ⟨hsync, rfl⟩ | ⟨hmid, hp, rfl⟩ | ⟨hmid, hp, hdata⟩
  · exact ⟨_, symMarker_of_sync (hst.trans hsync), hR.start h⟩
  · exact ⟨_, symMarker_of_restart (hst ▸ hmid) (hpolicy.trans hp),
      hR.start (hR.withEvCode (c := EV_RESTART) (by decide) h)⟩
  · rw [symMarker_of_data (hst ▸ hmid) (hpolicy.trans hp)]
    exact hR.symData h hdata

theorem Simulates.runSymbol (hR : Simulates R) {s s' t : State} {o : Option Symbol} (h : R s s')
    (ht : runSymbol o s = .next t) : ∃ t', runSymbol o s' = .next t' ∧ R t t' := by
  rcases o with - | d | -
  · cases ht
    exact ⟨s', rfl, h⟩
  · exact hR.symData h ht
  · exact hR.symMarker h ht

theorem Simulates.exec_decodeInput (hR : Simulates R) {s s' t : State} {w : InputWord} (h : R s s')
    (ht : exec (decodeInput s.st w) s = .next t) :
    ∃ t', exec (decodeInput s'.st w) s' = .next t' ∧ R t t' := by
  have hst := hR.st h
  rw [hst]
  rcases decodeInput_cases s.st w with hw | hw | ⟨hmid, hw⟩ | ⟨hsync, hw⟩ | hw <;> rw [hw] at ht ⊢
  · cases ht
    exact ⟨_, rfl, hR.reset h⟩
  · rw [exec_byte_eq_runSymbol] at ht ⊢
    rw [hR.esc h]
    exact hR.runSymbol (hR.withEsc _ h) ht
  · cases (exec_timeoutMidframe hmid).symm.trans ht
    exact ⟨_, exec_timeoutMidframe (hst ▸ hmid), hR.timeout h⟩
  · cases (exec_timeoutSync hsync).symm.trans ht
    exact ⟨_, exec_timeoutSync (hst.trans hsync), hR.withEsc false h⟩
  · cases ht
    exact ⟨s', rfl, h⟩

theorem Simulates.stepOn (hR : Simulates R) {s s' t : State} {w : InputWord} (h : R s s')
    (ht : stepOn w s = .next t) : ∃ t', stepOn w s' = .next t' ∧ R t t' :=
  hR.exec_decodeInput (hR.withEvCode (c := EV_NONE) (by decide) h) ht

end

/-! ### The same block around another buffer -/

/-- The state with another buffer of capacity `q`. -/
def withBuffer (q : Nat) (b : List Byte) (s : State) : State :=
  { s with params := { s.params with rxBufBytes := q }, buf := b }

/-- The buffer `b` holds the bytes of `s` below `k`. -/
def AgreesBelow (k : Nat) (s : State) (b : List Byte) : Prop :=
  ∀ i < k, b.getD i 0x00#8 = bufAt s i

theorem AgreesBelow.mono {k m : Nat} {s : State} {b : List Byte} (h : AgreesBelow k s b)
    (hm : m ≤ k) : AgreesBelow m s b :=
  fun i hi => h i (by omega)

/-- R90: the two buffers agree one byte further after the store. -/
theorem AgreesBelow.storeByte {s : State} {b : List Byte} (h : AgreesBelow s.n s b)
    (hb : s.n < b.length) (hs : s.n < s.buf.length) (d : Byte) :
    AgreesBelow (s.n + 1) (storeByte d s) (b.set s.n d) := by
  intro i hi
  by_cases heq : i = s.n
  · rw [heq, bufAt_storeByte_self hs]
    simp [hb]
  · rw [bufAt_storeByte_ne heq, ← h i (by omega)]
    simp [List.getD, Ne.symm heq]

theorem payloadLen_withBuffer {q : Nat} {b : List Byte} {s : State} (h : AgreesBelow 4 s b) :
    payloadLen (withBuffer q b s) = payloadLen s := by
  have hcmdlen : bufAt (withBuffer q b s) 3 = bufAt s 3 := h 3 (by omega)
  unfold payloadLen
  rw [hcmdlen]

theorem typeBit_withBuffer {q : Nat} {b : List Byte} {s : State} (h : AgreesBelow 2 s b) :
    typeBit (withBuffer q b s) = typeBit s := by
  have hhdr0 : bufAt (withBuffer q b s) 1 = bufAt s 1 := h 1 (by omega)
  unfold typeBit
  rw [hhdr0]

/-- R107 reads the three bytes of the token. -/
theorem emitToken_withBuffer {q : Nat} {b : List Byte} {s : State} (h : AgreesBelow 3 s b) :
    emitToken (withBuffer q b s) = withBuffer q b (emitToken s) := by
  have hhdr0 : bufAt (withBuffer q b s) 1 = bufAt s 1 := h 1 (by omega)
  have hhdr1 : bufAt (withBuffer q b s) 2 = bufAt s 2 := h 2 (by omega)
  unfold emitToken
  rw [hhdr0, hhdr1]
  rfl

/-- R108 reads the `4 + L` bytes of the frame before its CRC. -/
theorem emitCommand_withBuffer {q : Nat} {b : List Byte} {s : State}
    (h : AgreesBelow (6 + payloadLen s) s b) :
    emitCommand (withBuffer q b s) = withBuffer q b (emitCommand s) := by
  have hbyte (i : Nat) (hi : i < 6 + payloadLen s) : bufAt (withBuffer q b s) i = bufAt s i :=
    h i hi
  have hL : payloadLen (withBuffer q b s) = payloadLen s :=
    payloadLen_withBuffer (h.mono (by omega))
  have hpayload : payloadBytes (withBuffer q b s) = payloadBytes s := by
    refine List.map_congr_left fun i _ => ?_
    rw [hL]
    exact ite_congr rfl (fun hi => hbyte (4 + i) (by omega)) fun _ => rfl
  unfold emitCommand
  rw [hbyte 1 (by omega), hbyte 2 (by omega), hbyte 3 (by omega), hpayload]
  rfl

/-- R104: the check reads the `6 + L` bytes of the frame. -/
theorem remainder_withBuffer {q : Nat} {b : List Byte} {s : State}
    (h : AgreesBelow (6 + payloadLen s) s b) (hb : 6 + payloadLen s ≤ b.length)
    (hs : 6 + payloadLen s ≤ s.buf.length) : remainder (withBuffer q b s) = remainder s := by
  have hL : payloadLen (withBuffer q b s) = payloadLen s :=
    payloadLen_withBuffer (h.mono (by omega))
  have htake : b.take (6 + payloadLen s) = s.buf.take (6 + payloadLen s) := by
    refine List.ext_getElem ?_ fun i hi _ => ?_
    · rw [List.length_take, List.length_take]
      omega
    · have hi' : i < 6 + payloadLen s := by
        rw [List.length_take] at hi
        omega
      have hbyte := h i hi'
      rw [bufAt, List.getD_eq_getElem _ _ (by omega), List.getD_eq_getElem _ _ (by omega)] at hbyte
      rw [List.getElem_take, List.getElem_take, hbyte]
  unfold remainder checkedBytes
  rw [hL]
  change crc16 ((b.take _).drop _) = _
  rw [htake]
  rfl

theorem checkCrc_withBuffer {q : Nat} {b : List Byte} {s : State}
    (h : AgreesBelow (6 + payloadLen s) s b) (hb : 6 + payloadLen s ≤ b.length)
    (hs : 6 + payloadLen s ≤ s.buf.length) :
    checkCrc (withBuffer q b s) = withBuffer q b (checkCrc s) := by
  unfold checkCrc
  rw [remainder_withBuffer h hb hs, emitCommand_withBuffer h]
  split_ifs
  · rfl
  · rfl

/-- A DATA symbol goes the same way around a buffer that agrees below the count, has room where this
one has, and is full where this one is. It either leaves both buffers alone or stores in both. -/
theorem DataStep.withBuffer {d : Byte} {s t : State} {q : Nat} {b : List Byte} (h : DataStep d s t)
    (hinv : BlockInv s) (hagree : AgreesBelow s.n s b) (hfull : BufFull s → s.n = q)
    (hroom : BufRoom s → s.n < q) (hb : b.length = q) :
    (t.buf = s.buf ∧ t.n ≤ s.n ∧ DataStep d (withBuffer q b s) (withBuffer q b t))
    ∨ (BufRoom s ∧ t.buf = (storeByte d s).buf ∧ t.n ≤ s.n + 1
        ∧ DataStep d (withBuffer q b s) (withBuffer q (b.set s.n d) t)) := by
  have hlen := hinv.size
  have hphase := hinv.phase
  have stored (hr : BufRoom s) : AgreesBelow (s.n + 1) (storeByte d s) (b.set s.n d) :=
    hagree.storeByte (hb ▸ hroom hr) (hlen ▸ hr) d
  have len (hr : BufRoom s) (hn : 3 ≤ s.n) :
      payloadLen (storeByte d (Machine.withBuffer q b s)) = payloadLen (storeByte d s) :=
    payloadLen_withBuffer ((stored hr).mono (by omega))
  have pkt (hst : s.st = .pkt) : 3 ≤ s.n := by
    rw [hst] at hphase
    change s.n = 3 ∨ (4 ≤ s.n ∧ s.n ≤ 3 + payloadLen s) at hphase
    omega
  have crc (hst : s.st = .crc) : 4 ≤ s.n := by
    rw [hst] at hphase
    change s.n = 4 + payloadLen s ∨ s.n = 5 + payloadLen s at hphase
    omega
  cases h with
  | discard hst => exact .inl ⟨rfl, le_rfl, .discard hst⟩
  | overflow hst hf => exact .inl ⟨rfl, Nat.zero_le _, .overflow hst (hfull hf)⟩
  | hdr0 hst hr hn => exact .inr ⟨hr, rfl, le_rfl, .hdr0 hst (hroom hr) hn⟩
  | token hst hr hn htype =>
    refine .inr ⟨hr, rfl, Nat.zero_le _, ?_⟩
    have htoken : emitToken (storeByte d (Machine.withBuffer q b s)) =
        Machine.withBuffer q (b.set s.n d) (emitToken (storeByte d s)) :=
      emitToken_withBuffer ((stored hr).mono (by omega))
    have heffect := DataStep.token (d := d) (s := Machine.withBuffer q b s) hst (hroom hr) hn
      ((typeBit_withBuffer (hagree.mono (by omega))).trans htype)
    rw [htoken] at heffect
    exact heffect
  | command hst hr hn htype =>
    exact .inr ⟨hr, rfl, le_rfl,
      .command hst (hroom hr) hn ((typeBit_withBuffer (hagree.mono (by omega))).trans htype)⟩
  | pktMore hst hr hn =>
    exact .inr ⟨hr, rfl, le_rfl, .pktMore hst (hroom hr) ((len hr (pkt hst)).symm ▸ hn)⟩
  | pktLast hst hr hn =>
    exact .inr ⟨hr, rfl, le_rfl, .pktLast hst (hroom hr) ((len hr (pkt hst)).symm ▸ hn)⟩
  | crcLow hst hr hn =>
    have hthree := crc hst
    exact .inr ⟨hr, rfl, le_rfl, .crcLow hst (hroom hr) ((len hr (by omega)).symm ▸ hn)⟩
  | crcHigh hst hr hn =>
    have hthree := crc hst
    have hcheck : checkCrc (storeByte d (Machine.withBuffer q b s)) =
        Machine.withBuffer q (b.set s.n d) (checkCrc (storeByte d s)) := by
      have hend : 6 + payloadLen (storeByte d s) = s.n + 1 := hn.symm
      have hroom' := hroom hr
      refine checkCrc_withBuffer (hend ▸ stored hr) ?_ ?_
      · rw [List.length_set]
        omega
      · rw [length_buf_storeByte]
        omega
    have heffect := DataStep.crcHigh (d := d) (s := Machine.withBuffer q b s) hst (hroom hr)
      ((len hr (by omega)).symm ▸ hn)
    rw [hcheck] at heffect
    refine .inr ⟨hr, ?_, Nat.zero_le _, heffect⟩
    rcases checkCrc_cases (storeByte d s) with heq | heq
    · rw [heq]
      rfl
    · rw [heq]
      rfl

end Sys2Proof.Machine

namespace Sys2Proof.Machine

/-! ### Stale buffer bytes (R21) -/

/-- The invariant beside a twin that may differ in the buffer bytes from the count up. -/
def StaleTwin (s s' : State) : Prop :=
  BlockInv s ∧ ∃ b, s' = withBuffer s.params.rxBufBytes b s ∧ b.length = s.buf.length
    ∧ AgreesBelow s.n s b

theorem staleTwin_iff {s s' : State} : StaleTwin s s' ↔ BlockInv s ∧ SameButStaleBytes s s' := by
  constructor
  · rintro ⟨hinv, b, rfl, hlen, hagree⟩
    exact ⟨hinv, rfl, hlen, hagree⟩
  · rintro ⟨hinv, heq, hlen, hagree⟩
    exact ⟨hinv, s'.buf, heq, hlen, hagree⟩

theorem AgreesBelow.of_buf_eq {k : Nat} {s t : State} {b : List Byte} (h : AgreesBelow k s b)
    (ht : t.buf = s.buf) : AgreesBelow k t b :=
  fun i hi => (h i hi).trans (bufAt_congr ht i).symm

/-- R85: the marker is the one byte below the count after `Start`. -/
theorem agreesBelow_start {s : State} {b : List Byte} (hb : 0 < b.length) (hs : 0 < s.buf.length) :
    AgreesBelow 1 (start s) (b.set 0 Config.MARKER) := by
  intro i hi
  obtain rfl := Nat.lt_one_iff.mp hi
  rw [bufAt_start_zero hs]
  simp [hb]

theorem StaleTwin.data {s s' t : State} {d : Byte} (h : StaleTwin s s') (hstep : DataStep d s t) :
    ∃ t', DataStep d s' t' ∧ StaleTwin t t' := by
  obtain ⟨hinv, b, rfl, hlen, hagree⟩ := h
  have hsize := hinv.size
  obtain ⟨hparams, -, -⟩ := hstep.keepsControls
  rcases hstep.withBuffer hinv hagree id id (hlen.trans hsize) with
    ⟨hbuf, hn, hstep'⟩ | ⟨hroom, hbuf, hn, hstep'⟩
  · exact ⟨_, hstep', hstep.blockInv hinv, b, by rw [hparams], by rw [hbuf, hlen],
      (hagree.mono hn).of_buf_eq hbuf⟩
  · have hstored := hagree.storeByte (by omega) (by omega) d
    refine ⟨_, hstep', hstep.blockInv hinv, b.set s.n d, by rw [hparams], ?_,
      (hstored.mono hn).of_buf_eq hbuf⟩
    rw [hbuf, length_buf_storeByte, List.length_set, hlen]

theorem simulates_staleTwin : Simulates StaleTwin where
  st := by
    rintro s s' ⟨-, b, rfl, -⟩
    rfl
  esc := by
    rintro s s' ⟨-, b, rfl, -⟩
    rfl
  midMarker := by
    rintro s s' ⟨-, b, rfl, -⟩
    rfl
  withEvCode := by
    rintro s s' c hc ⟨hinv, b, rfl, hlen, hagree⟩
    exact ⟨blockInv_withFlags hinv hc s.esc, b, rfl, hlen, hagree⟩
  withEsc := by
    rintro s s' e ⟨hinv, b, rfl, hlen, hagree⟩
    exact ⟨hinv, b, rfl, hlen, hagree⟩
  reset := by
    rintro s s' ⟨hinv, b, rfl, hlen, hagree⟩
    exact ⟨blockInv_resetWith hinv.wf s.inputs, _, rfl, rfl, fun i hi => rfl⟩
  timeout := by
    rintro s s' ⟨hinv, b, rfl, hlen, hagree⟩
    exact ⟨blockInv_takeError_incomplete hinv, b, rfl, hlen,
      fun i hi => absurd hi (Nat.not_lt_zero i)⟩
  start := by
    rintro s s' ⟨hinv, b, rfl, hlen, hagree⟩
    have hsize := hinv.size
    have hcap := hinv.capacity
    refine ⟨blockInv_start hinv.range, b.set 0 Config.MARKER, rfl, ?_,
      agreesBelow_start (by omega) (by omega)⟩
    rw [length_buf_start, List.length_set, hlen]
  data := StaleTwin.data

/-- Settles O3: every row reads the buffer below the count alone, and a store moves the count with
the byte. -/
theorem staleBufferBytesAreUnobservable : Obligations.StaleBufferBytesAreUnobservable := by
  unfold Obligations.StaleBufferBytesAreUnobservable
  intro s s' t w hinv hsame h
  obtain ⟨t', ht', htwin⟩ := simulates_staleTwin.stepOn (staleTwin_iff.mpr ⟨hinv, hsame⟩) h
  exact ⟨t', ht', (staleTwin_iff.mp htwin).2⟩

/-! ### Buffers above 21 bytes (R7) -/

/-- The buffer of `withCapacity q`. -/
def resized (q : Nat) (b : List Byte) : List Byte :=
  b.take 21 ++ List.replicate (q - 21) 0x00#8

theorem withCapacity_eq_withBuffer (q : Nat) (s : State) :
    withCapacity q s = withBuffer q (resized q s.buf) s := rfl

theorem length_resized {q : Nat} {b : List Byte} (hb : 21 ≤ b.length) (hq : 21 ≤ q) :
    (resized q b).length = q := by
  unfold resized
  rw [List.length_append, List.length_take, List.length_replicate]
  omega

theorem agreesBelow_resized {q : Nat} {s : State} (hs : 21 ≤ s.buf.length) :
    AgreesBelow 21 s (resized q s.buf) := by
  intro i hi
  unfold resized bufAt
  rw [List.getD_append _ _ _ _ (by rw [List.length_take]; omega), List.getD_eq_getElem?_getD,
    List.getElem?_take_of_lt hi, List.getD_eq_getElem?_getD]

theorem resized_set {q i : Nat} {b : List Byte} (hb : 21 ≤ b.length) (hi : i < 21) (d : Byte) :
    resized q (b.set i d) = (resized q b).set i d := by
  unfold resized
  rw [List.take_set, List.set_append_left _ _ (by rw [List.length_take]; omega)]

/-- The invariant with a capacity of at least 21, beside the same block of capacity `q`. -/
def CapacityTwin (q : Nat) (s s' : State) : Prop :=
  BlockInv s ∧ 21 ≤ s.params.rxBufBytes ∧ s' = withCapacity q s

theorem CapacityTwin.data {q : Nat} (hq : 21 ≤ q) {s s' t : State} {d : Byte}
    (h : CapacityTwin q s s') (hstep : DataStep d s t) :
    ∃ t', DataStep d s' t' ∧ CapacityTwin q t t' := by
  obtain ⟨hinv, hcap, rfl⟩ := h
  have hsize := hinv.size
  have hn : s.n ≤ 20 := le_twenty_of_phaseFits hinv.phase (payloadLen_le s)
  obtain ⟨hparams, -, -⟩ := hstep.keepsControls
  have hcap' : 21 ≤ t.params.rxBufBytes := by rw [hparams]; exact hcap
  rw [withCapacity_eq_withBuffer]
  rcases hstep.withBuffer (q := q) hinv ((agreesBelow_resized (by omega)).mono (by omega))
      (fun hfull => by omega) (fun _ => by omega) (length_resized (by omega) hq) with
    ⟨hbuf, -, hstep'⟩ | ⟨-, hbuf, -, hstep'⟩
  · exact ⟨_, hstep', hstep.blockInv hinv, hcap', by rw [withCapacity_eq_withBuffer, hbuf]⟩
  · refine ⟨_, hstep', hstep.blockInv hinv, hcap', ?_⟩
    rw [withCapacity_eq_withBuffer, hbuf, storeByte_buf, resized_set (by omega) (by omega)]

theorem simulates_capacityTwin {q : Nat} (hq : 21 ≤ q) : Simulates (CapacityTwin q) where
  st := by
    rintro s s' ⟨-, -, rfl⟩
    rfl
  esc := by
    rintro s s' ⟨-, -, rfl⟩
    rfl
  midMarker := by
    rintro s s' ⟨-, -, rfl⟩
    rfl
  withEvCode := by
    rintro s s' c hc ⟨hinv, hcap, rfl⟩
    exact ⟨blockInv_withFlags hinv hc s.esc, hcap, rfl⟩
  withEsc := by
    rintro s s' e ⟨hinv, hcap, rfl⟩
    exact ⟨hinv, hcap, rfl⟩
  reset := by
    rintro s s' ⟨hinv, hcap, rfl⟩
    have hzeros :
        resized q (List.replicate s.params.rxBufBytes 0x00#8) = List.replicate q 0x00#8 := by
      unfold resized
      rw [List.take_replicate, ← List.replicate_add]
      congr 1
      omega
    refine ⟨blockInv_resetWith hinv.wf s.inputs, hcap, ?_⟩
    rw [withCapacity_eq_withBuffer]
    change _ = withBuffer q (resized q (List.replicate s.params.rxBufBytes 0x00#8)) _
    rw [hzeros]
    rfl
  timeout := by
    rintro s s' ⟨hinv, hcap, rfl⟩
    exact ⟨blockInv_takeError_incomplete hinv, hcap, rfl⟩
  start := by
    rintro s s' ⟨hinv, hcap, rfl⟩
    have hsize := hinv.size
    refine ⟨blockInv_start hinv.range, hcap, ?_⟩
    rw [withCapacity_eq_withBuffer, withCapacity_eq_withBuffer, start_buf,
      resized_set (by omega) (by omega)]
    rfl
  data := CapacityTwin.data hq

/-- Settles O1: R23 keeps every count below 21, so no larger buffer fills and no byte past the first
21 is read or written. -/
theorem largeBuffersBehaveAlike : Obligations.LargeBuffersBehaveAlike := by
  unfold Obligations.LargeBuffersBehaveAlike
  intro s t w q hinv hcap hq h
  obtain ⟨t', ht', -, -, rfl⟩ := (simulates_capacityTwin hq).stepOn ⟨hinv, hcap, rfl⟩ h
  exact ht'

end Sys2Proof.Machine

namespace Sys2Proof.Machine

/-! ### Feeds that report nothing until their last step -/

/-- The feed goes from `s` to `t`, and no step of it reports an event. -/
def Quietly (ws : List InputWord) (s t : State) : Prop :=
  feed ws s = .next t ∧ events ws s = List.replicate ws.length 0#3

/-- The feed goes from `s` to `t`, its last step reports `c`, and no other step reports an event. -/
def EndsWith (c : BitVec 3) (ws : List InputWord) (s t : State) : Prop :=
  feed ws s = .next t ∧ events ws s = List.replicate (ws.length - 1) 0#3 ++ [c]

theorem Quietly.append {ws vs : List InputWord} {s t u : State} (h : Quietly ws s t)
    (h' : Quietly vs t u) : Quietly (ws ++ vs) s u := by
  refine ⟨(feed_append_of h.1 vs).trans h'.1, ?_⟩
  rw [events_append_of h.1 vs, h.2, h'.2, List.length_append, List.replicate_add]

theorem Quietly.endsWith {ws vs : List InputWord} {s t u : State} {c : BitVec 3}
    (h : Quietly ws s t) (h' : EndsWith c vs t u) (hvs : vs ≠ []) : EndsWith c (ws ++ vs) s u := by
  have hpos := List.length_pos_of_ne_nil hvs
  refine ⟨(feed_append_of h.1 vs).trans h'.1, ?_⟩
  rw [events_append_of h.1 vs, h.2, h'.2, List.length_append, Nat.add_sub_assoc hpos,
    List.replicate_add, List.append_assoc]

theorem quietly_single {w : InputWord} {s t : State} (h : stepOn w s = .next t)
    (hev : t.evCode = 0#3) : Quietly [w] s t :=
  ⟨feed_cons_of h [], by rw [events_cons_of h [], hev]; rfl⟩

theorem endsWith_single {w : InputWord} {s t : State} (h : stepOn w s = .next t) :
    EndsWith t.evCode [w] s t :=
  ⟨feed_cons_of h [], events_cons_of h []⟩

/-- A last step without an event is as quiet as the others. -/
theorem EndsWith.quietly {ws : List InputWord} {s t : State} (h : EndsWith 0#3 ws s t)
    (hws : ws ≠ []) : Quietly ws s t := by
  refine ⟨h.1, ?_⟩
  rw [h.2, ← List.replicate_succ', Nat.sub_add_cancel (List.length_pos_of_ne_nil hws)]

/-- The first step of a feed with more to come is a quiet one. -/
theorem endsWith_cons_iff {w : InputWord} {ws : List InputWord} {s t : State} {c : BitVec 3}
    (hws : ws ≠ []) :
    EndsWith c (w :: ws) s t ↔ ∃ u, stepOn w s = .next u ∧ u.evCode = 0#3 ∧ EndsWith c ws u t := by
  constructor
  · rintro ⟨hfeed, hevents⟩
    obtain ⟨u, hu⟩ : ∃ u, stepOn w s = .next u := by
      unfold feed at hfeed
      split at hfeed
      · exact ⟨_, ‹_›⟩
      · cases hfeed
      · cases hfeed
    rw [feed_cons_of hu] at hfeed
    rw [events_cons_of hu, List.length_cons, Nat.add_sub_cancel,
      ← Nat.sub_add_cancel (List.length_pos_of_ne_nil hws), List.replicate_succ, List.cons_append,
      List.cons.injEq] at hevents
    exact ⟨u, hu, hevents.1, hfeed, hevents.2⟩
  · rintro ⟨u, hu, hev, h⟩
    exact (quietly_single hu hev).endsWith h hws

/-- A feed that ends with an event is not empty. -/
theorem EndsWith.ne_nil {c : BitVec 3} {ws : List InputWord} {s t : State} (h : EndsWith c ws s t) :
    ws ≠ [] := by
  rintro rfl
  exact absurd h.2 (by simp)

/-- A feed of at least one step does not read the event before it. -/
theorem EndsWith.withEvCode {c : BitVec 3} {ws : List InputWord} {s t : State}
    (h : EndsWith c ws s t) (e : BitVec 3) : EndsWith c ws { s with evCode := e } t := by
  cases ws with
  | nil => exact absurd rfl h.ne_nil
  | cons w ws => exact h

/-! ### A feed with IDLE steps anywhere in it (R124, R154) -/

theorem stepOn_of_wordByte {w : InputWord} {b : Byte} (h : wordByte w = some b) (s : State) :
    stepOn w s = stepOn (packInput false false true b) s := by
  unfold wordByte at h
  split_ifs at h with hbyte
  obtain ⟨hrst, hvalid⟩ := hbyte
  cases h
  refine stepOn_congr ?_
  rw [decodeInput_packInput_byte, decodeInput_eq, hrst, hvalid]
  rfl

theorem stepOn_of_isIdle {w : InputWord} (h : isIdle w = true) (s : State) :
    stepOn w s = .next { s with evCode := EV_NONE } := by
  simp only [isIdle, Bool.and_eq_true, Bool.not_eq_true'] at h
  obtain ⟨⟨hrst, htimeout⟩, hvalid⟩ := h
  rw [stepOn_eq, decodeInput_eq, hrst, hvalid, htimeout]
  rfl

theorem wordByte_of_isIdle {w : InputWord} (h : isIdle w = true) : wordByte w = none := by
  simp only [isIdle, Bool.and_eq_true, Bool.not_eq_true'] at h
  exact if_neg fun hbyte => absurd (h.2.symm.trans hbyte.2) (by decide)

theorem endsWith_congr_head {c : BitVec 3} {w w' : InputWord} {s t : State}
    (h : stepOn w s = stepOn w' s) (ws : List InputWord) :
    EndsWith c (w :: ws) s t ↔ EndsWith c (w' :: ws) s t := by
  simp only [EndsWith, feed, events, h, List.length_cons]

/-- A feed whose last word is a byte delivers one. -/
theorem filterMap_wordByte_ne_nil {ws : List InputWord}
    (hlast : (ws.getLast?.bind wordByte).isSome = true) : ws.filterMap wordByte ≠ [] := by
  obtain ⟨b, hb⟩ := Option.isSome_iff_exists.mp hlast
  obtain ⟨w, hw, hwb⟩ := Option.bind_eq_some_iff.mp hb
  exact List.ne_nil_of_mem (List.mem_filterMap.mpr ⟨w, List.mem_of_getLast? hw, hwb⟩)

/-- A feed of wire bytes with IDLE steps among them ends as the feed of the bytes alone does. -/
theorem endsWith_of_feedOf {c : BitVec 3} {ws : List InputWord} {bs : List Byte} {s t : State}
    (hfeed : FeedOf ws bs) (h : EndsWith c (byteSteps bs) s t) : EndsWith c ws s t := by
  induction ws generalizing bs s with
  | nil => exact absurd hfeed.2.2 (by simp)
  | cons w ws ih =>
    obtain ⟨hwords, hbytes, hlast⟩ := hfeed
    obtain ⟨hw, hws⟩ := List.forall_mem_cons.mp hwords
    cases ws with
    | nil =>
      obtain ⟨b, hb⟩ := Option.isSome_iff_exists.mp hlast
      change wordByte w = some b at hb
      rw [List.filterMap_cons_some hb] at hbytes
      subst hbytes
      exact (endsWith_congr_head (stepOn_of_wordByte hb s) []).mpr h
    | cons v ws =>
      have hlast' : ((v :: ws).getLast?.bind wordByte).isSome = true := by
        rwa [List.getLast?_cons_cons] at hlast
      by_cases hidle : isIdle w = true
      · rw [List.filterMap_cons_none (wordByte_of_isIdle hidle)] at hbytes
        exact (endsWith_cons_iff (by simp)).mpr
          ⟨_, stepOn_of_isIdle hidle s, rfl, ih ⟨hws, hbytes, hlast'⟩ (h.withEvCode EV_NONE)⟩
      · obtain ⟨b, hb⟩ := Option.isSome_iff_exists.mp (hw.resolve_right hidle)
        rw [List.filterMap_cons_some hb] at hbytes
        subst hbytes
        have hrest : byteSteps ((v :: ws).filterMap wordByte) ≠ [] :=
          mt List.map_eq_nil_iff.mp (filterMap_wordByte_ne_nil hlast')
        obtain ⟨u, hu, hev, hends⟩ := (endsWith_cons_iff hrest).mp h
        exact (endsWith_cons_iff (by simp)).mpr
          ⟨u, (stepOn_of_wordByte hb s).trans hu, hev, ih ⟨hws, rfl, hlast'⟩ hends⟩

end Sys2Proof.Machine

namespace Sys2Proof.Machine

/-! ### The wire form of one byte does what the byte does (R82) -/

theorem stepOn_byte_data {b d : Byte} {s : State}
    (hclass : classify s.esc b = (some (.data d), false)) :
    stepOn (packInput false false true b) s =
      symData d { s with evCode := EV_NONE, esc := false } := by
  rw [stepOn_byte, hclass]
  rfl

/-- An escape marker is a step without an event; the byte, or the pair, then gives its DATA symbol.
-/
theorem endsWith_escByte {d : Byte} {s t : State} (hesc : s.esc = false)
    (h : symData d { s with evCode := EV_NONE } = .next t) :
    EndsWith t.evCode (byteSteps (escByte d)) s t := by
  have hself : { s with evCode := EV_NONE, esc := false } = { s with evCode := EV_NONE } := by
    rw [← hesc]
  rw [← hself] at h
  rcases escByte_cases d with ⟨x, hform, hrestored, -⟩ | ⟨hform, hescape, hmarker⟩
  · have hpair : stepOn (packInput false false true Config.ESCAPE) s =
        .next { s with evCode := EV_NONE, esc := true } := by
      rw [stepOn_byte, hesc, classify_escape]
      rfl
    have hdata := stepOn_byte_data (s := { s with evCode := EV_NONE, esc := true })
      (hrestored ▸ classify_escaped x)
    rw [hform]
    exact (endsWith_cons_iff (by simp)).mpr ⟨_, hpair, rfl, endsWith_single (hdata.trans h)⟩
  · rw [hform]
    exact endsWith_single ((stepOn_byte_data (hesc ▸ classify_plain hescape hmarker)).trans h)

theorem byteSteps_escByte_ne_nil (d : Byte) : byteSteps (escByte d) ≠ [] := by
  refine mt List.map_eq_nil_iff.mp (List.ne_nil_of_length_pos ?_)
  rw [length_escByte]
  omega

theorem quietly_escByte {d : Byte} {s t : State} (hesc : s.esc = false)
    (h : symData d { s with evCode := EV_NONE } = .next t) (hev : t.evCode = 0#3) :
    Quietly (byteSteps (escByte d)) s t :=
  (hev ▸ endsWith_escByte hesc h).quietly (byteSteps_escByte_ne_nil d)

theorem byteSteps_append (as bs : List Byte) :
    byteSteps (as ++ bs) = byteSteps as ++ byteSteps bs :=
  List.map_append

/-! ### The reader with a partial frame in its buffer -/

/-- The reader stands in `q` with the bytes `v` accumulated and no escape pending. -/
structure Accumulated (q : Fsm) (v : List Byte) (s : State) : Prop where
  st : s.st = q
  esc : s.esc = false
  count : s.n = v.length
  bytes : s.buf.take v.length = v
  size : s.buf.length = s.params.rxBufBytes

section
variable {q : Fsm} {v : List Byte} {s : State}

theorem Accumulated.bufAt (h : Accumulated q v s) {i : Nat} (hi : i < v.length) :
    bufAt s i = v.getD i 0x00#8 := by
  have htake := congrArg (·.getD i 0x00#8) h.bytes
  simp only [List.getD_eq_getElem?_getD, List.getElem?_take_of_lt hi] at htake
  rw [Machine.bufAt, List.getD_eq_getElem?_getD, htake, List.getD_eq_getElem?_getD]

/-- R16: `L`, once the cmdlen byte is among the bytes accumulated. -/
theorem Accumulated.payloadLen (h : Accumulated q v s) (hv : 3 < v.length) :
    payloadLen s = (lenField (v.getD 3 0x00#8)).toNat := by
  rw [Machine.payloadLen, h.bufAt hv]

theorem Accumulated.withEvCode (h : Accumulated q v s) (c : BitVec 3) :
    Accumulated q v { s with evCode := c } :=
  ⟨h.st, h.esc, h.count, h.bytes, h.size⟩

theorem Accumulated.withSt (h : Accumulated q v s) (q' : Fsm) :
    Accumulated q' v { s with st := q' } :=
  ⟨rfl, h.esc, h.count, h.bytes, h.size⟩

/-- R90: a store appends its byte. -/
theorem Accumulated.storeByte (h : Accumulated q v s) (hroom : v.length < s.params.rxBufBytes)
    (d : Byte) : Accumulated q (v ++ [d]) (storeByte d s) := by
  have hn := h.count
  have hsize := h.size
  refine ⟨h.st, h.esc, ?_, ?_, ?_⟩
  · rw [storeByte_n, hn, List.length_append]
    rfl
  · rw [storeByte_buf, hn, List.length_append]
    exact (take_succ_set (by omega) d).trans (congrArg (· ++ [d]) h.bytes)
  · rw [length_buf_storeByte]
    exact hsize

/-- R104: the check runs over all the bytes of a complete frame from the CRC's start on. -/
theorem Accumulated.checkedBytes (h : Accumulated q v s)
    (hv : v.length = 6 + Machine.payloadLen s) :
    checkedBytes s = v.drop (crcStart s.params.crcCoversMarker) := by
  unfold Machine.checkedBytes
  rw [← hv, h.bytes]

/-- R108: the payload of a complete frame. -/
theorem Accumulated.payloadBytes (h : Accumulated q v s)
    (hv : 4 + Machine.payloadLen s ≤ v.length) (hfits : v.length ≤ s.params.rxBufBytes) :
    payloadBytes s = (v.drop 4).take (Machine.payloadLen s)
      ++ List.replicate (15 - Machine.payloadLen s) 0x00#8 := by
  have hsize := h.size
  have htake : (v.drop 4).take (Machine.payloadLen s) =
      (s.buf.drop 4).take (Machine.payloadLen s) := by
    rw [← h.bytes, List.drop_take, List.take_take, Nat.min_eq_left (by omega)]
  rw [payloadBytes_eq_append (by omega), htake]

/-- A byte that is stored and completes no frame is taken quietly. -/
theorem Accumulated.quietly_store {q' : Fsm} {d : Byte} (h : Accumulated q v s)
    (hroom : v.length < s.params.rxBufBytes)
    (hstep : Accumulated q v { s with evCode := EV_NONE } →
      Accumulated q (v ++ [d]) (Machine.storeByte d { s with evCode := EV_NONE }) →
      DataStep d { s with evCode := EV_NONE }
        { Machine.storeByte d { s with evCode := EV_NONE } with st := q' }) :
    ∃ t, Quietly (byteSteps (escByte d)) s t ∧ Accumulated q' (v ++ [d]) t
      ∧ t.params = s.params := by
  have hcleared := h.withEvCode EV_NONE
  have hstored := hcleared.storeByte hroom d
  exact ⟨_, quietly_escByte h.esc (symData_eq_next_iff.mpr (hstep hcleared hstored)) rfl,
    hstored.withSt q', rfl⟩

end

/-! ### The bytes of a command frame up to its last (R92-R97) -/

/-- R92: hdr0. -/
theorem quietly_hdr0 {s : State} {m d : Byte} (h : Accumulated .hdr [m] s)
    (hroom : 1 < s.params.rxBufBytes) :
    ∃ t, Quietly (byteSteps (escByte d)) s t ∧ Accumulated .hdr [m, d] t ∧ t.params = s.params := by
  refine h.quietly_store hroom fun hs hstored => ?_
  have heffect := DataStep.hdr0 (d := d) hs.st (hs.count ▸ hroom) hs.count
  rw [← hstored.st]
  exact heffect

/-- R94: hdr1 of a command frame. -/
theorem quietly_hdr1 {s : State} {m d0 d : Byte} (h : Accumulated .hdr [m, d0] s)
    (hroom : 2 < s.params.rxBufBytes) (htype : typeField d0 = 1#1) :
    ∃ t, Quietly (byteSteps (escByte d)) s t ∧ Accumulated .pkt [m, d0, d] t
      ∧ t.params = s.params := by
  refine h.quietly_store hroom fun hs _ => .command hs.st (hs.count ▸ hroom) hs.count ?_
  have hhdr0 : bufAt { s with evCode := EV_NONE } 1 = d0 := hs.bufAt (by simp)
  rw [typeBit, hhdr0, htype]

/-- R95: a byte of the packet with more to come. -/
theorem quietly_pktMore {s : State} {v : List Byte} {d : Byte} (h : Accumulated .pkt v s)
    (hroom : v.length < s.params.rxBufBytes) (hv : 3 ≤ v.length)
    (hmore : v.length + 1 < 4 + (lenField ((v ++ [d]).getD 3 0x00#8)).toNat) :
    ∃ t, Quietly (byteSteps (escByte d)) s t ∧ Accumulated .pkt (v ++ [d]) t
      ∧ t.params = s.params := by
  refine h.quietly_store hroom fun hs hstored => ?_
  rw [← hstored.payloadLen (by simp; omega), ← hs.count] at hmore
  have heffect := DataStep.pktMore hs.st (hs.count ▸ hroom) hmore
  rw [← hstored.st]
  exact heffect

/-- R96: the last byte of the packet. -/
theorem quietly_pktLast {s : State} {v : List Byte} {d : Byte} (h : Accumulated .pkt v s)
    (hroom : v.length < s.params.rxBufBytes) (hv : 3 ≤ v.length)
    (hlast : v.length + 1 = 4 + (lenField ((v ++ [d]).getD 3 0x00#8)).toNat) :
    ∃ t, Quietly (byteSteps (escByte d)) s t ∧ Accumulated .crc (v ++ [d]) t
      ∧ t.params = s.params := by
  refine h.quietly_store hroom fun hs hstored => ?_
  rw [← hstored.payloadLen (by simp; omega), ← hs.count] at hlast
  exact .pktLast hs.st (hs.count ▸ hroom) hlast

/-- R97: the low byte of the CRC. -/
theorem quietly_crcLow {s : State} {v : List Byte} {d : Byte} (h : Accumulated .crc v s)
    (hroom : v.length < s.params.rxBufBytes)
    (hlow : v.length = 4 + (lenField (v.getD 3 0x00#8)).toNat) :
    ∃ t, Quietly (byteSteps (escByte d)) s t ∧ Accumulated .crc (v ++ [d]) t
      ∧ t.params = s.params := by
  refine h.quietly_store hroom fun hs hstored => ?_
  have hL : payloadLen (storeByte d { s with evCode := EV_NONE }) =
      payloadLen { s with evCode := EV_NONE } :=
    payloadLen_storeByte_of_ne (by rw [hs.count]; omega)
  rw [← hs.payloadLen (by omega), ← hL, ← hs.count] at hlow
  have heffect := DataStep.crcLow (d := d) hs.st (hs.count ▸ hroom) (by omega)
  rw [← hstored.st]
  exact heffect

/-- R95, R96: the packet, from its cmdlen byte to its last, whose number cmdlen gives. -/
theorem quietly_packet {s : State} {v p : List Byte} (h : Accumulated .pkt v s) (hp : p ≠ [])
    (hv : 3 ≤ v.length) (hroom : v.length + p.length ≤ s.params.rxBufBytes)
    (hlen : v.length + p.length = 4 + (lenField ((v ++ p).getD 3 0x00#8)).toNat) :
    ∃ t, Quietly (byteSteps (p.flatMap escByte)) s t ∧ Accumulated .crc (v ++ p) t
      ∧ t.params = s.params := by
  induction p generalizing v s with
  | nil => exact absurd rfl hp
  | cons d p ih =>
    rw [List.length_cons] at hroom hlen
    cases p with
    | nil =>
      rw [List.flatMap_singleton]
      exact quietly_pktLast h (by omega) hv hlen
    | cons d' p =>
      rw [List.flatMap_cons, byteSteps_append]
      have happend : v ++ d :: d' :: p = (v ++ [d]) ++ d' :: p := by simp
      have hcmdlen : (v ++ d :: d' :: p).getD 3 0x00#8 = (v ++ [d]).getD 3 0x00#8 := by
        rw [happend, List.getD_append _ _ _ _ (by simp; omega)]
      rw [hcmdlen] at hlen
      rw [List.length_cons] at hroom hlen
      obtain ⟨u, hquiet, hacc, hparams⟩ := quietly_pktMore (d := d) h (by omega) hv (by omega)
      have hlength : (v ++ [d]).length = v.length + 1 := by simp
      obtain ⟨t, hquiet', hacc', hparams'⟩ := ih hacc (by simp) (by omega)
        (by rw [hparams, hlength, List.length_cons]; omega)
        (by rw [← happend, hcmdlen, hlength, List.length_cons]; omega)
      exact ⟨t, hquiet.append hquiet', happend ▸ hacc', hparams'.trans hparams⟩

end Sys2Proof.Machine

namespace Sys2Proof.Machine

/-! ### The marker and the last byte of a frame (R86, R88, R93, R98) -/

/-- R85: behind the marker the reader has accumulated it alone. -/
theorem accumulated_start {s : State} (hesc : s.esc = false) (hpos : 0 < s.buf.length)
    (hsize : s.buf.length = s.params.rxBufBytes) : Accumulated .hdr [Config.MARKER] (start s) := by
  refine ⟨rfl, hesc, rfl, ?_, (length_buf_start s).trans hsize⟩
  exact take_succ_set hpos Config.MARKER

/-- R86, R88: under RESTART, or in SYNC, a marker starts a frame, and drops a partial one. -/
theorem stepOn_marker {s : State} (hinv : BlockInv s) (hesc : s.esc = false)
    (hp : s.st ≠ .sync → s.params.midMarker = .restart) :
    ∃ t, stepOn (packInput false false true Config.MARKER) s = .next t
      ∧ t.evCode = (if s.st = .sync then 0#3 else 6#3)
      ∧ Accumulated .hdr [Config.MARKER] t ∧ t.params = s.params := by
  have hsize := hinv.size
  have hcap := hinv.capacity
  have hpos : 0 < s.buf.length := by omega
  have hstep : stepOn (packInput false false true Config.MARKER) s =
      symMarker { s with evCode := EV_NONE, esc := false } := by
    rw [stepOn_byte, hesc, classify_marker]
    rfl
  rw [hstep]
  by_cases hst : s.st = .sync
  · rw [if_pos hst]
    exact ⟨_, symMarker_of_sync hst, rfl, accumulated_start rfl hpos hsize, rfl⟩
  · rw [if_neg hst]
    exact ⟨_, symMarker_of_restart hst (hp hst), rfl, accumulated_start rfl hpos hsize, rfl⟩

/-- What the frame registers show of a token. -/
def ShowsToken (f : TokenFields) (t : State) : Prop :=
  t.frmKind = 0#1 ∧ t.frmDest = f.dest ∧ t.frmBcast = f.bcast ∧ t.frmSrc = f.src
    ∧ t.frmSeq = f.seq ∧ t.frmCmd = 0#4 ∧ t.frmLen = 0#4
    ∧ t.frmPayload = List.replicate 15 0x00#8

/-- What the frame registers show of a command frame. -/
def ShowsCommand (f : CommandFields) (t : State) : Prop :=
  t.frmKind = 1#1 ∧ t.frmDest = f.dest ∧ t.frmBcast = f.bcast ∧ t.frmSrc = f.src
    ∧ t.frmSeq = f.seq ∧ t.frmCmd = f.cmd ∧ t.frmLen = BitVec.ofNat 4 f.payload.length
    ∧ t.frmPayload = f.payload ++ List.replicate (15 - f.payload.length) 0x00#8

/-- The reader is back in SYNC, with nothing accumulated and no escape pending. -/
def Resynced (t : State) : Prop :=
  t.st = .sync ∧ t.n = 0 ∧ t.esc = false

/-- R93: hdr1 of a token ends the frame. -/
theorem endsWith_tokenHdr1 {f : TokenFields} {s : State}
    (h : Accumulated .hdr [Config.MARKER, hdr0Byte f.dest f.bcast 0#1] s)
    (hroom : 2 < s.params.rxBufBytes) :
    ∃ t, EndsWith 1#3 (byteSteps (escByte (hdr1Byte f.src f.seq))) s t
      ∧ ShowsToken f t ∧ Resynced t := by
  have hs := h.withEvCode EV_NONE
  have hstored := hs.storeByte hroom (hdr1Byte f.src f.seq)
  have htype : typeBit { s with evCode := EV_NONE } = 0#1 := by
    rw [typeBit, hs.bufAt (by simp)]
    exact typeField_hdr0Byte f.dest f.bcast 0#1
  have hstep := DataStep.token (d := hdr1Byte f.src f.seq) hs.st (hs.count ▸ hroom) hs.count htype
  have hhdr0 := hstored.bufAt (i := 1) (by simp)
  have hhdr1 := hstored.bufAt (i := 2) (by simp)
  refine ⟨_, endsWith_escByte h.esc (symData_eq_next_iff.mpr hstep),
    ⟨rfl, ?_, ?_, ?_, ?_, rfl, rfl, rfl⟩, rfl, rfl, h.esc⟩
  · exact (congrArg destField hhdr0).trans (destField_hdr0Byte _ _ _)
  · exact (congrArg bcastField hhdr0).trans (bcastField_hdr0Byte _ _ _)
  · exact (congrArg srcField hhdr1).trans (srcField_hdr1Byte _ _)
  · exact (congrArg seqField hhdr1).trans (seqField_hdr1Byte _ _)

/-- R98, R105, R108: the high byte of a correct CRC ends the frame and emits it. -/
theorem endsWith_crcHigh {v : List Byte} {d : Byte} {s : State} (h : Accumulated .crc v s)
    (hroom : v.length < s.params.rxBufBytes)
    (hlen : v.length = 5 + (lenField (v.getD 3 0x00#8)).toNat)
    (hcrc : crc16 ((v ++ [d]).drop (crcStart s.params.crcCoversMarker)) = 0x0000#16) :
    EndsWith 2#3 (byteSteps (escByte d)) s
      (resync (emitCommand (storeByte d { s with evCode := EV_NONE }))) := by
  have hs := h.withEvCode EV_NONE
  have hstored := hs.storeByte hroom d
  have hL : payloadLen (storeByte d { s with evCode := EV_NONE }) =
      payloadLen { s with evCode := EV_NONE } :=
    payloadLen_storeByte_of_ne (by rw [hs.count]; omega)
  rw [← hs.payloadLen (by omega), ← hL] at hlen
  have hn := hs.count
  have hstep := DataStep.crcHigh (d := d) hs.st (hn ▸ hroom) (by omega)
  have hpass : remainder (storeByte d { s with evCode := EV_NONE }) = 0x0000#16 := by
    rw [remainder, hstored.checkedBytes (by rw [List.length_append, List.length_singleton]; omega)]
    exact hcrc
  have hcheck : checkCrc (storeByte d { s with evCode := EV_NONE }) =
      emitCommand (storeByte d { s with evCode := EV_NONE }) := if_pos hpass
  rw [hcheck] at hstep
  exact endsWith_escByte h.esc (symData_eq_next_iff.mpr hstep)

/-! ### A command frame from its marker on (R121, R124) -/

theorem length_rawHead (f : CommandFields) : (rawHead f).length = 4 + f.payload.length := by
  rw [rawHead, List.length_append]
  rfl

/-- R108: the fields of a complete command frame, read from its bytes. -/
theorem showsCommand_of_accumulated {f : CommandFields} {c : CrcWord} {s : State}
    (h : Accumulated .crc (rawHead f ++ crcBytes c) s) (hpayload : f.payload.length ≤ 15)
    (hfits : 6 + f.payload.length ≤ s.params.rxBufBytes) :
    ShowsCommand f (resync (emitCommand s)) := by
  have hlength : (rawHead f ++ crcBytes c).length = 6 + f.payload.length := by
    rw [List.length_append, length_rawHead, Nat.add_right_comm]
    rfl
  have hhdr0 : bufAt s 1 = hdr0Byte f.dest f.bcast 1#1 := h.bufAt (by omega)
  have hhdr1 : bufAt s 2 = hdr1Byte f.src f.seq := h.bufAt (by omega)
  have hcmdlen : bufAt s 3 = cmdlenByte f.cmd f.payload.length := h.bufAt (by omega)
  have hL : payloadLen s = f.payload.length := by
    rw [payloadLen, hcmdlen, toNat_lenField_cmdlenByte f.cmd hpayload]
  have hbytes : ((rawHead f ++ crcBytes c).drop 4).take f.payload.length = f.payload :=
    List.take_left' rfl
  refine ⟨rfl, ?_, ?_, ?_, ?_, ?_, ?_, ?_⟩
  · exact (congrArg destField hhdr0).trans (destField_hdr0Byte _ _ _)
  · exact (congrArg bcastField hhdr0).trans (bcastField_hdr0Byte _ _ _)
  · exact (congrArg srcField hhdr1).trans (srcField_hdr1Byte _ _)
  · exact (congrArg seqField hhdr1).trans (seqField_hdr1Byte _ _)
  · exact (congrArg cmdField hcmdlen).trans (cmdField_cmdlenByte _ _)
  · exact (congrArg lenField hcmdlen).trans (lenField_cmdlenByte _ _)
  · exact (h.payloadBytes (by omega) (by omega)).trans (by rw [hL, hbytes])

/-- R103, R121: the CRC the encoder appends passes the check. -/
theorem crc16_rawCommand (k : Bool) (f : CommandFields) :
    crc16 ((rawCommand k f).drop (crcStart k)) = 0x0000#16 := by
  have hstart : crcStart k ≤ (rawHead f).length := by
    rw [length_rawHead, crcStart]
    split_ifs <;> omega
  rw [rawCommand, List.drop_append_of_le_length hstart]
  exact (crc16_append_two_eq_zero_iff _ _ _).mpr (append_bytes _).symm

/-- R62, R121: the bytes of a command frame after its marker, part by part, in wire form. -/
theorem byteSteps_commandTail (k : Bool) (f : CommandFields) {c : CrcWord}
    (hc : crc16 ((rawHead f).drop (crcStart k)) = c) :
    byteSteps ((rawCommand k f).tail.flatMap escByte) =
      byteSteps (escByte (hdr0Byte f.dest f.bcast 1#1))
        ++ (byteSteps (escByte (hdr1Byte f.src f.seq))
        ++ (byteSteps ((cmdlenByte f.cmd f.payload.length :: f.payload).flatMap escByte)
        ++ (byteSteps (escByte (c.extractLsb' 0 8))
        ++ byteSteps (escByte (c.extractLsb' 8 8))))) := by
  have htail : (rawCommand k f).tail = hdr0Byte f.dest f.bcast 1#1 :: hdr1Byte f.src f.seq ::
      ((cmdlenByte f.cmd f.payload.length :: f.payload)
        ++ [c.extractLsb' 0 8, c.extractLsb' 8 8]) := by
    rw [rawCommand, hc]
    rfl
  rw [htail, List.flatMap_cons, List.flatMap_cons, List.flatMap_append, byteSteps_append,
    byteSteps_append, byteSteps_append]
  simp only [List.flatMap_cons, List.flatMap_nil, List.append_nil, byteSteps_append]

/-- The bytes of a command frame after its marker, in wire form, end with the frame's emission. -/
theorem endsWith_commandTail {f : CommandFields} {s : State}
    (h : Accumulated .hdr [Config.MARKER] s) (hpayload : f.payload.length ≤ 15)
    (hfits : 6 + f.payload.length ≤ s.params.rxBufBytes) :
    ∃ t, EndsWith 2#3
        (byteSteps ((rawCommand s.params.crcCoversMarker f).tail.flatMap escByte)) s t
      ∧ ShowsCommand f t ∧ Resynced t := by
  have hL := toNat_lenField_cmdlenByte f.cmd hpayload
  have hcrc := crc16_rawCommand s.params.crcCoversMarker f
  rw [byteSteps_commandTail s.params.crcCoversMarker f rfl]
  rw [rawCommand] at hcrc
  generalize crc16 ((rawHead f).drop (crcStart s.params.crcCoversMarker)) = c at hcrc ⊢
  obtain ⟨s1, hquiet1, hacc1, hparams1⟩ :=
    quietly_hdr0 (d := hdr0Byte f.dest f.bcast 1#1) h (by omega)
  obtain ⟨s2, hquiet2, hacc2, hparams2⟩ :=
    quietly_hdr1 (d := hdr1Byte f.src f.seq) hacc1 (by rw [hparams1]; omega)
      (typeField_hdr0Byte f.dest f.bcast 1#1)
  rw [hparams1] at hparams2
  obtain ⟨s3, hquiet3, hacc3, hparams3⟩ :=
    quietly_packet (p := cmdlenByte f.cmd f.payload.length :: f.payload) hacc2 (by simp) le_rfl
      (by rw [hparams2]; simp only [List.length_cons, List.length_nil]; omega)
      (by
        change 3 + (f.payload.length + 1) =
          4 + (lenField (cmdlenByte f.cmd f.payload.length)).toNat
        omega)
  rw [hparams2] at hparams3
  change Accumulated .crc (rawHead f) s3 at hacc3
  have hhead := length_rawHead f
  obtain ⟨s4, hquiet4, hacc4, hparams4⟩ :=
    quietly_crcLow (d := c.extractLsb' 0 8) hacc3 (by rw [hparams3]; omega)
      (hhead.trans (congrArg (4 + ·) hL.symm))
  rw [hparams3] at hparams4
  have hlow : (rawHead f ++ [c.extractLsb' 0 8]).length = 5 + f.payload.length := by
    rw [List.length_append, hhead, List.length_singleton]
    omega
  have hframe :
      (rawHead f ++ [c.extractLsb' 0 8]) ++ [c.extractLsb' 8 8] = rawHead f ++ crcBytes c :=
    List.append_assoc _ _ _
  have hroom : (rawHead f ++ [c.extractLsb' 0 8]).length < s4.params.rxBufBytes := by
    rw [hparams4]
    omega
  have hends := endsWith_crcHigh (d := c.extractLsb' 8 8) hacc4 hroom
    (hlow.trans (congrArg (5 + ·) hL.symm)) (by rw [hframe, hparams4]; exact hcrc)
  have hstored := (hacc4.withEvCode EV_NONE).storeByte hroom (c.extractLsb' 8 8)
  rw [hframe] at hstored
  refine ⟨_, ?_, showsCommand_of_accumulated hstored hpayload (hparams4.symm ▸ hfits),
    rfl, rfl, hacc4.esc⟩
  have hlast := byteSteps_escByte_ne_nil (c.extractLsb' 8 8)
  refine hquiet1.endsWith ?_ (by simp [hlast])
  refine hquiet2.endsWith ?_ (by simp [hlast])
  refine hquiet3.endsWith ?_ (by simp [hlast])
  exact hquiet4.endsWith hends hlast

/-- The bytes of a token after its marker, in wire form, end with the token's emission. -/
theorem endsWith_tokenTail {f : TokenFields} {s : State} (h : Accumulated .hdr [Config.MARKER] s)
    (hcap : 3 ≤ s.params.rxBufBytes) :
    ∃ t, EndsWith 1#3 (byteSteps ((rawToken f).tail.flatMap escByte)) s t
      ∧ ShowsToken f t ∧ Resynced t := by
  have htail : byteSteps ((rawToken f).tail.flatMap escByte) =
      byteSteps (escByte (hdr0Byte f.dest f.bcast 0#1))
        ++ byteSteps (escByte (hdr1Byte f.src f.seq)) := by
    rw [← byteSteps_append]
    simp [rawToken]
  obtain ⟨s1, hquiet, hacc, hparams⟩ :=
    quietly_hdr0 (d := hdr0Byte f.dest f.bcast 0#1) h (by omega)
  obtain ⟨t, hends, hshows, hresynced⟩ := endsWith_tokenHdr1 hacc (by rw [hparams]; omega)
  rw [htail]
  exact ⟨t, hquiet.endsWith hends (byteSteps_escByte_ne_nil _), hshows, hresynced⟩

/-! ### Whole frames (R100, R124) -/

/-- A frame's wire form from a state with the invariant and no escape pending: its marker starts it,
and the rest, which `tail` says, ends it. -/
theorem feed_frame {c : BitVec 3} {us : List Byte} {s : State} {P : State → Prop}
    (hinv : BlockInv s) (hesc : s.esc = false) (hp : s.st ≠ .sync → s.params.midMarker = .restart)
    (htail : ∀ u, Accumulated .hdr [Config.MARKER] u → u.params = s.params →
      ∃ t, EndsWith c (byteSteps (us.flatMap escByte)) u t ∧ P t) :
    ∃ t, feed (byteSteps (escEncode (Config.MARKER :: us))) s = .next t
      ∧ events (byteSteps (escEncode (Config.MARKER :: us))) s =
        (if s.st = .sync then 0#3 else 6#3)
          :: List.replicate ((escEncode (Config.MARKER :: us)).length - 2) 0#3 ++ [c]
      ∧ P t := by
  obtain ⟨u, hu, hev, hacc, hparams⟩ := stepOn_marker hinv hesc hp
  obtain ⟨t, ⟨hfeed, hevents⟩, ht⟩ := htail u hacc hparams
  have hlength : (byteSteps (us.flatMap escByte)).length - 1 =
      (escEncode (Config.MARKER :: us)).length - 2 := by
    change (List.map _ _).length - 1 = _ + 1 - 2
    rw [List.length_map]
    rfl
  rw [hlength] at hevents
  refine ⟨t, (feed_cons_of hu _).trans hfeed,
    (events_cons_of hu (byteSteps (us.flatMap escByte))).trans ?_, ht⟩
  rw [hev, hevents]
  rfl

/-- From SYNC the marker reports nothing, so the frame's wire form ends with its only event; IDLE
steps in the feed change nothing. -/
theorem endsWith_frame {c : BitVec 3} {us : List Byte} {s : State} {P : State → Prop}
    {ws : List InputWord} (hinv : BlockInv s) (hst : s.st = .sync) (hesc : s.esc = false)
    (hfeed : FeedOf ws (escEncode (Config.MARKER :: us)))
    (htail : ∀ u, Accumulated .hdr [Config.MARKER] u → u.params = s.params →
      ∃ t, EndsWith c (byteSteps (us.flatMap escByte)) u t ∧ P t) :
    ∃ t, EndsWith c ws s t ∧ P t := by
  obtain ⟨u, hu, hev, hacc, hparams⟩ := stepOn_marker hinv hesc (fun h => absurd hst h)
  obtain ⟨t, hends, ht⟩ := htail u hacc hparams
  rw [if_pos hst] at hev
  exact ⟨t, endsWith_of_feedOf hfeed ((endsWith_cons_iff hends.ne_nil).mpr ⟨u, hu, hev, hends⟩), ht⟩

/-- Settles O56: the two bytes after the marker end with the token, and IDLE steps are not seen. -/
theorem tokenRoundTrip : Obligations.TokenRoundTrip := by
  unfold Obligations.TokenRoundTrip
  intro f s ws hinv hst hesc hfeed
  have hcap := hinv.capacity
  obtain ⟨t, ⟨hfeed, hevents⟩, ⟨hkind, hdest, hbcast, hsrc, hseq, hcmd, hlen, hpayload⟩,
      hresynced⟩ :=
    endsWith_frame hinv hst hesc hfeed
      fun u hacc hparams => endsWith_tokenTail hacc (hparams.symm ▸ hcap)
  exact ⟨t, hfeed, hevents, hkind, hdest, hbcast, hsrc, hseq, hcmd, hlen, hpayload, hresynced⟩

/-- Settles O57: the bytes after the marker are accumulated up to the CRC's last, which passes the
check; IDLE steps are not seen. -/
theorem commandRoundTrip : Obligations.CommandRoundTrip := by
  unfold Obligations.CommandRoundTrip
  intro f s ws hinv hst hesc hwf hfits hfeed
  have hpayload : f.payload.length ≤ 15 := of_decide_eq_true hwf
  obtain ⟨t, ⟨hfeed, hevents⟩, ⟨hkind, hdest, hbcast, hsrc, hseq, hcmd, hlen, hpayload⟩,
      hresynced⟩ :=
    endsWith_frame hinv hst hesc hfeed fun u hacc hparams =>
      hparams ▸ endsWith_commandTail hacc hpayload (hparams.symm ▸ hfits)
  exact ⟨t, hfeed, hevents, hkind, hdest, hbcast, hsrc, hseq, hcmd, hlen, hpayload, hresynced⟩

/-- What every step keeps, a feed keeps. -/
theorem feed_induction {P : State → Prop}
    (hstep : ∀ {s t w}, P s → stepOn w s = .next t → P t) {ws : List InputWord} {s t : State}
    (hs : P s) (h : feed ws s = .next t) : P t := by
  induction ws generalizing s with
  | nil =>
    cases h
    exact hs
  | cons w ws ih =>
    unfold feed at h
    split at h
    · exact ih (hstep hs ‹_›) h
    · cases h
    · cases h

/-- R18, R23: a feed keeps the invariant and the parameters. -/
theorem feed_keeps {ws : List InputWord} {s t : State} (hinv : BlockInv s)
    (h : feed ws s = .next t) : BlockInv t ∧ t.params = s.params :=
  feed_induction (P := fun u => BlockInv u ∧ u.params = s.params)
    (fun hu hstep => ⟨blockInv_of_stepOn hu.1 hstep,
      (stepEffect_of_stepOn hstep).params_inputs.1.trans hu.2⟩)
    ⟨hinv, rfl⟩ h

/-- A frame's wire form behind any bytes that leave no escape pending. -/
theorem feed_garbage_frame {c : BitVec 3} {us g : List Byte} {s0 s1 : State} {P : State → Prop}
    (hinv : BlockInv s0) (hp : s0.params.midMarker = .restart)
    (hg : feed (byteSteps g) s0 = .next s1) (hesc : s1.esc = false)
    (htail : ∀ u, Accumulated .hdr [Config.MARKER] u → u.params = s0.params →
      ∃ t, EndsWith c (byteSteps (us.flatMap escByte)) u t ∧ P t) :
    ∃ t, feed (byteSteps (g ++ escEncode (Config.MARKER :: us))) s0 = .next t
      ∧ events (byteSteps (g ++ escEncode (Config.MARKER :: us))) s0 =
        events (byteSteps g) s0 ++ (if s1.st = .sync then 0#3 else 6#3)
          :: List.replicate ((escEncode (Config.MARKER :: us)).length - 2) 0#3 ++ [c]
      ∧ P t := by
  obtain ⟨hinv1, hparams1⟩ := feed_keeps hinv hg
  obtain ⟨t, hfeed, hevents, ht⟩ := feed_frame hinv1 hesc (fun _ => by rw [hparams1, hp])
    fun u hacc hparams => htail u hacc (hparams.trans hparams1)
  rw [byteSteps_append]
  refine ⟨t, (feed_append_of hg _).trans hfeed, ?_, ht⟩
  rw [events_append_of hg, hevents, List.append_assoc]

/-- Settles O46: the garbage keeps the invariant and the parameters, and the frame's marker, in SYNC
or mid-frame under RESTART, starts the frame anew. -/
theorem resynchronizesAfterGarbage : Obligations.ResynchronizesAfterGarbage := by
  unfold Obligations.ResynchronizesAfterGarbage
  intro s0 s1 g hinv hp hg hesc _
  have hcap := hinv.capacity
  refine ⟨fun f => ?_, fun f hwf hfits => ?_⟩
  · obtain ⟨t, hfeed, hevents, ⟨hkind, hdest, hbcast, hsrc, hseq, -⟩, -⟩ :=
      feed_garbage_frame hinv hp hg hesc
        fun u hacc hparams => endsWith_tokenTail (f := f) hacc (hparams.symm ▸ hcap)
    exact ⟨t, hfeed, hevents, hkind, hdest, hbcast, hsrc, hseq⟩
  · have hpayload : f.payload.length ≤ 15 := of_decide_eq_true hwf
    obtain ⟨t, hfeed, hevents, hshows, -⟩ :=
      feed_garbage_frame hinv hp hg hesc fun u hacc hparams =>
        hparams ▸ endsWith_commandTail hacc hpayload (hparams.symm ▸ hfits)
    exact ⟨t, hfeed, hevents, hshows⟩

end Sys2Proof.Machine
